-- ==== Sys2Proof/Word.lean ====
section
/-! DEFINITION. The words of the block (spec 30_encoding.md rules R65, R81) and the closed sets of names its
operands are made of: clock sources and the eight display commands. Nothing here computes a meaning. -/

namespace Sys2Proof

/-- One byte: a payload, a bus byte, a status byte, a character (rule R65). -/
abbrev Byte := BitVec 8

/-- Half a byte: what one nibble group carries (rule R80). -/
abbrev Nibble := BitVec 4

/-- A command word: R/W, RS and payload (rule R68). -/
abbrev CommandWord := BitVec 10

/-- The `clock_source` operand of `TC.START` (rules R21, R101): bit value 0 internal, 1 external. -/
inductive ClockSource where
  | internal   -- internal timebase, timestamp mode
  | external   -- external signal, pulse-counter mode
  deriving DecidableEq, Repr

/-- `DisplayCommand`: the closed set of eight variants (rules R69, R70, R88). A boolean field is true for bit value 1.
The address of `SetDDRAMAddress` is any natural number, as rule R86 gives it: the payload drops its bits above bit 6. -/
inductive Command where
  | clearDisplay
  | returnHome
  | entryModeSet (incrementCursor shiftDisplay : Bool)
  | displayControls (displayOn cursorOn cursorBlink : Bool)
  | cursorDisplayShift (shift direction : Bool)
  | functionSet (eightBitMode twoLineMode bigFonts : Bool)
  | setDDRAMAddress (address : Nat)
  | writeData (byte : Byte)
  deriving DecidableEq, Repr

/-- The two formats a request is written in: `OP`, a selector byte with its operands (rule R66), and `CW`, a bare
command word of unit LD (rule R68). -/
inductive Format where
  | op
  | cw
  deriving DecidableEq, Repr

end Sys2Proof
end

