-- ==== Sys2Proof/Config.lean ====
section
/-! DEFINITION. The implementation parameters of rule R6 (spec 00_scope.md), one record. The record stands in State
(log entry 2), so that a statement about every state is a statement about every admissible parameter value. The
parameters that rule R6 leaves OPEN are constants with no body, and so are the free values (log entries 3 and 4). -/

namespace Sys2Proof

/-- Whether the register read and the flag read of a sample are two steps or one (`CAPTURE`, rules R6, R103). -/
inductive Capture where
  | split
  | atomic
  deriving DecidableEq, Repr

/-- The three eight-bit readings of the printed FunctionSet row (`FS_LAYOUT`, rule R76; conflict C1). -/
inductive FsLayout where
  | hitachi
  | dropLead
  | dropTrail
  deriving DecidableEq, Repr

/-- How the driver waits after ClearDisplay and ReturnHome (`LONG_WAIT`, rule R166). -/
inductive LongWait where
  | poll
  | delay
  deriving DecidableEq, Repr

/-- Where the byte of a bus read comes from: the bare oracle of rule R42, or the lines of the reference environment of
rule R185. Not a parameter of rule R6: file 44 lets a model take either (log entry 5). -/
inductive ReadPath where
  | bareOracle
  | referenceEnvironment
  deriving DecidableEq, Repr

/-- Every parameter of rule R6, in its order. `CNT_WIDTH`, `COUNTER_RANGE` and `NIBBLE_HI` are fixed there and are
written into the model. Positions are bit numbers 0 to 3; levels are true for 1. MODEL'S CHOICE (log entry 28): the rate
`TICK_HZ` in hertz and the durations `T_PHASE_US` and `T_LONG_US` in microseconds are whole numbers. -/
structure Config where
  tallyWidth : Nat
  capture : Capture
  tickHz : Nat
  lcdAddr : BitVec 7
  posRs : Fin 4
  posRw : Fin 4
  posE : Fin 4
  posAux : Fin 4
  rsData : Bool
  rwRead : Bool
  auxLevel : Bool
  probeNibble : Nibble
  fsLayout : FsLayout
  initFs : Bool × Bool × Bool
  initDc : Bool × Bool × Bool
  initEm : Bool × Bool
  lineCap : Nat
  longWait : LongWait
  tPhaseUs : Nat
  tLongUs : Nat
  pollLimit : Option Nat
  strictRange : Bool
  fmtWidth : Nat
  fmtCap : Nat
  readPath : ReadPath
  deriving DecidableEq, Repr

/-- `TICK_WIDTH = TALLY_WIDTH + 16` (rule R6). -/
def Config.tickWidth (c : Config) : Nat := c.tallyWidth + 16

/-- The values rule R6 calls admissible. -/
abbrev Config.Admissible (c : Config) : Prop :=
  16 ≤ c.tallyWidth ∧ 0 < c.tickHz ∧
  [c.posRs, c.posRw, c.posE, c.posAux].Nodup ∧
  (c.lineCap = 16 ∨ c.lineCap = 32) ∧
  100 ≤ c.tPhaseUs ∧ c.tPhaseUs ≤ 200 ∧ 0 < c.tLongUs ∧
  c.pollLimit ≠ some 0 ∧ 1 ≤ c.fmtWidth ∧ 1 ≤ c.fmtCap

/-- `TICK_HZ` less one: OPEN in rule R6, so no value is chosen (log entry 3). -/
opaque Config.openTickHz : Nat

/-- `LCD_ADDR`: OPEN in rule R6 (log entry 3). -/
opaque Config.openLcdAddr : BitVec 7

/-- `T_PHASE_US` above 100: OPEN in rule R6 within 100 to 200 microseconds (log entry 3). -/
opaque Config.openPhase : Fin 101

/-- `T_LONG_US` less one: OPEN in rule R6 (log entry 3). -/
opaque Config.openLong : Nat

/-- The free values of the peers (rule R7's `draw`; log entry 4): byte `i` of draw `n`. It has no body, so no proof can
see a value of it. -/
opaque Config.freeByte : Nat → Nat → Byte

/-- The defaults of rule R6, with the OPEN parameters left open. -/
def Config.default : Config where
  tallyWidth := 16
  capture := .split
  tickHz := Config.openTickHz + 1
  lcdAddr := Config.openLcdAddr
  posRs := 0
  posRw := 1
  posE := 2
  posAux := 3
  rsData := true
  rwRead := true
  auxLevel := false
  probeNibble := 15#4
  fsLayout := .hitachi
  initFs := (false, true, false)
  initDc := (true, false, false)
  initEm := (true, false)
  lineCap := 16
  longWait := .poll
  tPhaseUs := 100 + Config.openPhase.val
  tLongUs := Config.openLong + 1
  pollLimit := none
  strictRange := false
  fmtWidth := 32
  fmtCap := 16
  readPath := .bareOracle

end Sys2Proof
end

