-- ==== Sys2Proof/Syntax.lean ====
section
/-! DEFINITION. The instructions: one constructor for each row of spec/opcode_table.json, in its order. The first
eleven are the operations and events of format OP (rules R5, R66); the last nine are the command words of format CW
(rules R68, R69). -/

namespace Sys2Proof

/-- What one request can ask for. Operand widths are those of rule R86: naturals where it says natural, 8 bits for a
position, any list of bytes for a text. -/
inductive Instr where
  | tcStart (source : ClockSource)
  | tcSample
  | tcTick
  | tcOvf
  | fmtFormat (v n m : Nat)
  | ldInit
  | ldClear
  | ldMove (position : Byte)
  | ldWrite (text : List Byte)
  | ldCmd (word : CommandWord)
  | ldStatus
  | clearDisplay
  | returnHome
  | entryModeSet (incrementCursor shiftDisplay : Bool)
  | displayControls (displayOn cursorOn cursorBlink : Bool)
  | cursorDisplayShift (shift direction : Bool)
  | functionSet (eightBitMode twoLineMode bigFonts : Bool)
  | setDDRAMAddress (address : Nat)
  | writeData (byte : Byte)
  | statusRead (unused : Byte)
  deriving DecidableEq, Repr

end Sys2Proof
end

