-- ==== Sys2Proof/Decode.lean ====
section
/-! DEFINITION. From bits to instructions and back (spec 30_encoding.md): the payload and command-word tables (rules
R68 to R78), the classification of a command word (rule R87), the decoder of requests, total on any bytes and
refusing by name (rules R67, R88), and the encoder. How operands follow a selector is the model's (log entry 6):
rule R66 architects no packing. -/

namespace Sys2Proof

/-! ### Command words -/

/-- Payload of FunctionSet under each layout (rule R76). -/
def functionSetPayload (lay : FsLayout) (dl n f : Bool) : Byte :=
  match lay with
  | .hitachi => 0b001#3 ++ BitVec.ofBool dl ++ BitVec.ofBool n ++ BitVec.ofBool f ++ 0b00#2
  | .dropLead => 0b0010#4 ++ BitVec.ofBool dl ++ BitVec.ofBool n ++ BitVec.ofBool f ++ 0b0#1
  | .dropTrail => 0b00100#5 ++ BitVec.ofBool dl ++ BitVec.ofBool n ++ BitVec.ofBool f

/-- `payload(cmd)` (rules R71 to R78), most significant bit first. -/
def Command.payload (lay : FsLayout) : Command → Byte
  | .clearDisplay => 0b00000001#8
  | .returnHome => 0b00000010#8
  | .entryModeSet i s => 0b000001#6 ++ BitVec.ofBool i ++ BitVec.ofBool s
  | .displayControls d c b => 0b00001#5 ++ BitVec.ofBool d ++ BitVec.ofBool c ++ BitVec.ofBool b
  | .cursorDisplayShift sc rl => 0b0001#4 ++ BitVec.ofBool sc ++ BitVec.ofBool rl ++ 0b00#2
  | .functionSet dl n f => functionSetPayload lay dl n f
  | .setDDRAMAddress a => 0b1#1 ++ BitVec.ofNat 7 a
  | .writeData b => b

/-- `rs(cmd)`: true selects the data register, for WriteData alone (rule R69). -/
def Command.rs : Command → Bool
  | .writeData _ => true
  | _ => false

/-- The command word of a write command: `rw = 0`, then `rs`, then the payload (rule R68). -/
def Command.word (lay : FsLayout) (c : Command) : CommandWord :=
  0b0#1 ++ BitVec.ofBool c.rs ++ c.payload lay

/-- The FunctionSet a payload spells under a layout, if it does (rules R76, R87). -/
def functionSetOf (lay : FsLayout) (p : Byte) : Option Command :=
  match lay with
  | .hitachi =>
    if p.extractLsb' 5 3 = 0b001#3 ∧ p.extractLsb' 0 2 = 0b00#2 then
      some (.functionSet (p.getLsbD 4) (p.getLsbD 3) (p.getLsbD 2)) else none
  | .dropLead =>
    if p.extractLsb' 4 4 = 0b0010#4 ∧ p.getLsbD 0 = false then
      some (.functionSet (p.getLsbD 3) (p.getLsbD 2) (p.getLsbD 1)) else none
  | .dropTrail =>
    if p.extractLsb' 3 5 = 0b00100#5 then
      some (.functionSet (p.getLsbD 2) (p.getLsbD 1) (p.getLsbD 0)) else none

/-- An instruction payload other than FunctionSet (rule R87, with `CW[9:8] = 0b00`); none for one the block never
emits (rule R88). -/
def plainCommandOf (p : Byte) : Option Command :=
  if p.getLsbD 7 then some (.setDDRAMAddress (p.extractLsb' 0 7).toNat)
  else if p.extractLsb' 4 4 = 0b0001#4 ∧ p.extractLsb' 0 2 = 0b00#2 then
    some (.cursorDisplayShift (p.getLsbD 3) (p.getLsbD 2))
  else if p.extractLsb' 3 5 = 0b00001#5 then
    some (.displayControls (p.getLsbD 2) (p.getLsbD 1) (p.getLsbD 0))
  else if p.extractLsb' 2 6 = 0b000001#6 then some (.entryModeSet (p.getLsbD 1) (p.getLsbD 0))
  else if p = 0x02#8 then some .returnHome
  else if p = 0x01#8 then some .clearDisplay
  else none

/-- The write command a word spells (rule R87); none where `CW[9] = 1` and for the words of rule R88. -/
def classify (lay : FsLayout) (w : CommandWord) : Option Command :=
  if w.getLsbD 9 then none
  else if w.getLsbD 8 then some (.writeData (w.extractLsb' 0 8))
  else match functionSetOf lay (w.extractLsb' 0 8) with
    | some c => some c
    | none => plainCommandOf (w.extractLsb' 0 8)

/-- A status read: `CW[9:8] = 0b10`, payload any (rules R69, R87). -/
def isStatusWord (w : CommandWord) : Bool :=
  w.extractLsb' 8 2 == 0b10#2

/-! ### Operands after a selector (log entry 6) -/

/-- A natural number as bytes, seven bits a byte, least significant first, bit 7 set on all but the last. -/
def natBytes : Nat → Nat → List Byte
  | 0, n => [BitVec.ofNat 8 (n % 128)]
  | fuel + 1, n =>
    if n < 128 then [BitVec.ofNat 8 n]
    else BitVec.ofNat 8 (n % 128 + 128) :: natBytes fuel (n / 128)

/-- `natBytes` with fuel enough for every seven bits of `n`. -/
def encodeNat (n : Nat) : List Byte := natBytes n.log2 n

/-- A natural number read back, with the bytes after it; none where the bytes end inside it. -/
def decodeNat : List Byte → Option (Nat × List Byte)
  | [] => none
  | b :: bs =>
    if b.toNat < 128 then some (b.toNat, bs)
    else match decodeNat bs with
      | none => none
      | some (n, rest) => some (n * 128 + (b.toNat - 128), rest)

/-- A text: its length, then that many bytes (rule R66). -/
def encodeText (text : List Byte) : List Byte := encodeNat text.length ++ text

/-- A text read back, with the bytes after it. -/
def decodeText (bs : List Byte) : Option (List Byte × List Byte) :=
  match decodeNat bs with
  | none => none
  | some (n, rest) => if rest.length < n then none else some (rest.take n, rest.drop n)

/-! ### Requests -/

/-- Why bytes are no request of the block; each is a refusal, none a trap (rules R67, R88, R204). -/
inductive DecodeError where
  | reservedSelector (sel : Byte)      -- rule R67: a selector not in rule R66
  | notACommand (word : CommandWord)   -- rule R88: a word the block has no constructor for
  | illegalOperand                     -- U10: a value outside the operand's type
  | missingOperand                     -- the bytes end before the selector's operands do
  deriving DecidableEq, Repr

/-- What the decoder answers: an instruction and the bytes after it, or why not. -/
inductive Decoded where
  | ok (i : Instr) (rest : List Byte)
  | bad (e : DecodeError)
  deriving DecidableEq, Repr

/-- The row of format CW that stands for a write command. -/
def Instr.ofCommand : Command → Instr
  | .clearDisplay => .clearDisplay
  | .returnHome => .returnHome
  | .entryModeSet i s => .entryModeSet i s
  | .displayControls d c b => .displayControls d c b
  | .cursorDisplayShift sc rl => .cursorDisplayShift sc rl
  | .functionSet dl n f => .functionSet dl n f
  | .setDDRAMAddress a => .setDDRAMAddress a
  | .writeData b => .writeData b

/-- Two bytes, the lower first, as a command word; the six bits above it must be 0. -/
def decodeWordBytes : List Byte → Option (BitVec 16 × List Byte)
  | lo :: hi :: rest => some (hi ++ lo, rest)
  | _ => none

/-- The operands of `TC.START`: one byte that is 0 or 1 (rules R66, R101; any other is no input, U10). -/
def decodeStart : List Byte → Decoded
  | [] => .bad .missingOperand
  | b :: rest =>
    if b = 0#8 then .ok (.tcStart .internal) rest
    else if b = 1#8 then .ok (.tcStart .external) rest
    else .bad .illegalOperand

/-- The operands of `FMT.FORMAT`: V, N, M. -/
def decodeFormat (bs : List Byte) : Decoded :=
  match decodeNat bs with
  | none => .bad .missingOperand
  | some (v, bs₁) =>
    match decodeNat bs₁ with
    | none => .bad .missingOperand
    | some (n, bs₂) =>
      match decodeNat bs₂ with
      | none => .bad .missingOperand
      | some (m, rest) => .ok (.fmtFormat v n m) rest

/-- The operand of `LD.MOVE`: one byte. -/
def decodeMove : List Byte → Decoded
  | [] => .bad .missingOperand
  | b :: rest => .ok (.ldMove b) rest

/-- The operand of `LD.WRITE`: a text. -/
def decodeWrite (bs : List Byte) : Decoded :=
  match decodeText bs with
  | none => .bad .missingOperand
  | some (t, rest) => .ok (.ldWrite t) rest

/-- The operand of `LD.CMD`: a command word. Which words are commands the meaning tests. -/
def decodeCmd (bs : List Byte) : Decoded :=
  match decodeWordBytes bs with
  | none => .bad .missingOperand
  | some (w, rest) =>
    if w.extractLsb' 10 6 = 0#6 then .ok (.ldCmd (w.extractLsb' 0 10)) rest else .bad .illegalOperand

/-- Format OP: a selector of rule R66 and its operands; every other selector is reserved (rule R67). -/
def decodeOp : List Byte → Decoded
  | [] => .bad .missingOperand
  | sel :: bs =>
    match sel.toNat with
    | 0x10 => decodeStart bs
    | 0x11 => .ok .tcSample bs
    | 0x1E => .ok .tcTick bs
    | 0x1F => .ok .tcOvf bs
    | 0x20 => decodeFormat bs
    | 0x30 => .ok .ldInit bs
    | 0x31 => .ok .ldClear bs
    | 0x32 => decodeMove bs
    | 0x33 => decodeWrite bs
    | 0x38 => decodeCmd bs
    | 0x39 => .ok .ldStatus bs
    | _ => .bad (.reservedSelector sel)

/-- Format CW: a bare command word (rule R87); a word of rule R88 is no command of this block. -/
def decodeCw (lay : FsLayout) (bs : List Byte) : Decoded :=
  match decodeWordBytes bs with
  | none => .bad .missingOperand
  | some (w, rest) =>
    if w.extractLsb' 10 6 ≠ 0#6 then .bad .illegalOperand
    else if isStatusWord (w.extractLsb' 0 10) then .ok (.statusRead (w.extractLsb' 0 8)) rest
    else match classify lay (w.extractLsb' 0 10) with
      | some c => .ok (Instr.ofCommand c) rest
      | none => .bad (.notACommand (w.extractLsb' 0 10))

/-- The decoder: total on any bytes of either format. -/
def decode (lay : FsLayout) (fmt : Format) (bs : List Byte) : Decoded :=
  match fmt with
  | .op => decodeOp bs
  | .cw => decodeCw lay bs

/-! ### Encoder -/

/-- A command word as two bytes, the lower first. -/
def wordBytes (w : CommandWord) : List Byte :=
  [w.extractLsb' 0 8, 0#6 ++ w.extractLsb' 8 2]

/-- The byte of a clock source. -/
def ClockSource.byte : ClockSource → Byte
  | .internal => 0#8
  | .external => 1#8

/-- The format and the bytes of an instruction (rules R66, R68 to R78). -/
def encode (lay : FsLayout) : Instr → Format × List Byte
  | .tcStart c => (.op, [0x10#8, c.byte])
  | .tcSample => (.op, [0x11#8])
  | .tcTick => (.op, [0x1E#8])
  | .tcOvf => (.op, [0x1F#8])
  | .fmtFormat v n m => (.op, 0x20#8 :: (encodeNat v ++ encodeNat n ++ encodeNat m))
  | .ldInit => (.op, [0x30#8])
  | .ldClear => (.op, [0x31#8])
  | .ldMove p => (.op, [0x32#8, p])
  | .ldWrite t => (.op, 0x33#8 :: encodeText t)
  | .ldCmd w => (.op, 0x38#8 :: wordBytes w)
  | .ldStatus => (.op, [0x39#8])
  | .clearDisplay => (.cw, wordBytes (Command.clearDisplay.word lay))
  | .returnHome => (.cw, wordBytes (Command.returnHome.word lay))
  | .entryModeSet i s => (.cw, wordBytes ((Command.entryModeSet i s).word lay))
  | .displayControls d c b => (.cw, wordBytes ((Command.displayControls d c b).word lay))
  | .cursorDisplayShift sc rl => (.cw, wordBytes ((Command.cursorDisplayShift sc rl).word lay))
  | .functionSet dl n f => (.cw, wordBytes ((Command.functionSet dl n f).word lay))
  | .setDDRAMAddress a => (.cw, wordBytes ((Command.setDDRAMAddress a).word lay))
  | .writeData b => (.cw, wordBytes ((Command.writeData b).word lay))
  | .statusRead u => (.cw, wordBytes (0b10#2 ++ u))

/-! ### The opcode table's words -/

/-- `n` bytes of a number, the least significant first. -/
def bytesOf : Nat → Nat → List Byte
  | 0, _ => []
  | n + 1, w => BitVec.ofNat 8 (w % 256) :: bytesOf n (w / 256)

/-- The format of a row by its width: a selector has 8 bits, a command word 10 (rule R65). -/
def tableFormat (nbits : Nat) : Format := if nbits ≤ 8 then .op else .cw

/-- The bytes of a row's word, with zero bytes after it for the operands the table gives no bits (log entry 6). -/
def tableBytes (nbits w : Nat) : List Byte :=
  bytesOf ((nbits + 7) / 8) w ++ List.replicate 4 0#8

/-- The instruction the decoder reads from a word numbered as spec/opcode_table.json numbers it. The layout of
FunctionSet is the table's own, HITACHI. -/
def decodeTableWord (nbits w : Nat) : Option Instr :=
  match decode .hitachi (tableFormat nbits) (tableBytes nbits w) with
  | .ok i _ => some i
  | .bad _ => none

end Sys2Proof
end

