-- ==== Sys2Proof/Machine/State.lean ====
section
/-! DEFINITION. The machine's state as plain data: every element of rules R10 to R26 (spec 10_state.md) under its own
name, the peers' state of rules R185 and R197 (spec 44_controller_environment.md), and the model's own fields: the
schedule of rule R9, the result an operation returns (rule R200), the trace of rule R7 and the draw counter. -/

namespace Sys2Proof.Machine

/-! ### Unit TC -/

/-- `SEQ_TC` (rule R15): the next micro-step of the sample in progress. -/
inductive SeqTc where
  | idle
  | s1
  | s2
  | s3
  | s4
  | s34
  | s5
  | s6
  deriving DecidableEq, Repr

/-! ### Unit LD -/

/-- The three phases of a nibble group (rule R82): Enable low, high, low again. -/
inductive Phase where
  | one
  | two
  | three
  deriving DecidableEq, Repr

/-- A half of a byte: the controller's `HALF` (rule R186), and which nibble of a status byte (rule R144). -/
inductive Half where
  | upper
  | lower
  deriving DecidableEq, Repr

/-- The operation `SEQ_LD` is in, with the operands captured at issue (rules R16, R64). `cmd` is a bare `SEND` of one
command (rule R142); `move` holds the DDRAM address of rule R172. -/
inductive LdOp where
  | init
  | clear
  | move (address : Nat)
  | write (text : List Byte)
  | cmd (c : Command)
  | status
  deriving DecidableEq, Repr

/-- The place inside the command in flight: a phase of a nibble group (rule R141), the `Delay` after it (rule R155), a
write or the read of one half of a status read (rule R144), or the fixed delay of `LONG_WAIT` (rule R166). -/
inductive Place where
  | phase (group : Nat) (ph : Phase)
  | gap (group : Nat) (ph : Phase)
  | probe (half : Half) (ph : Phase)
  | read (half : Half)
  | longDelay
  deriving DecidableEq, Repr

/-- The tuple of rule R16, with the number of transfers the operation has completed (the index `BusError` records,
rule R201). -/
structure LdRun where
  op : LdOp
  cmd : Nat
  place : Place
  polls : Nat
  transfers : Nat
  deriving DecidableEq, Repr

/-- `SEQ_LD` (rule R16). -/
inductive SeqLd where
  | idle
  | active (r : LdRun)
  deriving DecidableEq, Repr

/-! ### What operations return and what the bus shows -/

/-- A transfer is a write or a read (rule R201). -/
inductive Transfer where
  | write
  | read
  deriving DecidableEq, Repr

/-- The errors of rule R201 with what each records. They are values, not faults (rule R200). -/
inductive OpError where
  | busError (kind : Transfer) (index : Nat)
  | busyTimeout
  | positionRange (position : Byte)
  | fmtCapacity (length : Nat)
  | fmtRange
  deriving DecidableEq, Repr

/-- What an operation returned to its caller (rules R66, R200). -/
inductive Result where
  | ok
  | tickCount (count : Nat)
  | written (truncated : Bool)
  | status (busy : Bool) (ac : BitVec 7)
  | error (e : OpError)
  deriving DecidableEq, Repr

/-- An event of the trace (rules R7, R240, R241): transfers with the device address they used, and delays
in whole microseconds (MODEL'S CHOICE, log entry 28). -/
inductive Event where
  | wrote (addr : BitVec 7) (b : Byte)
  | read (addr : BitVec 7) (b : Byte)
  | writeFailed (addr : BitVec 7) (b : Byte)
  | readFailed (addr : BitVec 7)
  | delay (us : Nat)
  deriving DecidableEq, Repr

/-! ### The schedule -/

/-- The oracle's answer to a transfer (rules R41, R42): `ok` with the byte drawn (a write ignores it), or `fail` with
the levels a failed write leaves on the lines (a read ignores them). -/
inductive Answer where
  | ok (byte : Byte)
  | fail (lines : Byte)
  deriving DecidableEq, Repr

/-- Who takes a step (rules R8, R220): the host in normal context, the handler in interrupt context, the tick source. -/
inductive Agent where
  | host
  | handler
  | tickSource
  deriving DecidableEq, Repr

/-- One entry of the schedule (rule R9): an agent asks for an operation or an event, written in bytes; the host takes
its next step of the operation in flight, with the oracle's answer in case that step is a transfer; or the display
controller has finished its command (rule R189). -/
inductive Slot where
  | request (who : Agent) (fmt : Format) (bytes : List Byte)
  | proceed (answer : Answer)
  | ready
  deriving DecidableEq, Repr

/-! ### The peers -/

/-- A memory: the cells that differ from `Memory.blank`, by rising address. DDRAM is the one memory (rules R40, R197). -/
abbrev Memory := List Host.Cell

/-- What an unlisted DDRAM cell reads as: the blank code 0x20 that ClearDisplay fills DDRAM with (rule R190; before the
first ClearDisplay log entry 7 names it). -/
def Memory.blank : Byte := 0x20#8

/-- The number of cells of the 7-bit space (rules R195, R197). -/
def Memory.size : Nat := 128

/-- The canonical form: addresses strictly rising and inside the space, no cell holding what an unlisted one reads as. -/
abbrev Memory.wf (m : Memory) : Prop :=
  m.Pairwise (fun a b => a.1 < b.1) ∧ ∀ c ∈ m, c.1 < Memory.size ∧ c.2 ≠ Memory.blank

/-- `MODE` (rule R197). -/
inductive Mode where
  | eight
  | four
  | unknown
  deriving DecidableEq, Repr

/-- The display controller's state (rules R186, R197): the protocol state, which half of a status byte it drives next
(rule R188), its address counter, memory and BUSY, and the mode bits the commands of rule R194 set. -/
structure Controller where
  mode : Mode
  half : Half
  up : Nibble
  readHalf : Half
  ac : BitVec 7
  ddram : Memory
  busy : Bool
  incrementCursor : Bool
  shiftDisplay : Bool
  displayOn : Bool
  cursorOn : Bool
  cursorBlink : Bool
  displayShift : Bool
  direction : Bool
  eightBitMode : Bool
  twoLineMode : Bool
  bigFonts : Bool
  deriving DecidableEq, Repr

/-! ### The whole machine -/

/-- Everything that changes as the block runs, with the parameters it runs under (`cfg`, which no step writes).
`schedule` is the input still to come, `agent` whose step is being taken, `result` what the last operation returned
(none while one is in flight), `trace` the bus events so far, oldest first, `draws` the number of free values drawn.
Outside a sample `tL`, `rL`, `pL` and outside a status read `b1`, `b2` hold what was last latched (log entry 25). -/
structure State where
  cfg : Config
  cnt : BitVec 16
  tally : Nat
  tL : Nat
  rL : BitVec 16
  pL : Bool
  ovf : Bool
  run : Bool
  clksel : ClockSource
  ovie : Bool
  mask : Bool
  seqTc : SeqTc
  seqLd : SeqLd
  b1 : Byte
  b2 : Byte
  out : List Byte
  outLen : Nat
  outValid : Bool
  lines : Byte
  ctrl : Controller
  agent : Agent
  result : Option Result
  trace : List Event
  schedule : List Slot
  draws : Nat
  deriving DecidableEq, Repr

/-! ### How a step can stop -/

/-- A step that cannot be taken. No rule gives the block a trap: errors are returned values (rule R200). -/
inductive Fault where
  /-- Raised by a host step of unit LD when `SEQ_LD` names a command or a nibble group that its operation does not
  have. Rule R16 lets no run reach such a place; safe: the model stops where the spec says nothing. -/
  | seqLdOffSequence
  deriving DecidableEq, Repr

/-- A request that is not admitted: no step, no result (rule R204). -/
inductive Refusal where
  /-- Answered by an arm of `exec` that has no meaning yet; safe: nothing is claimed of the instruction. -/
  | notModelled (mnemonic : String)
  /-- Answered by `step` for bytes that are no request of the block: a reserved selector (rule R67), a word that is no
  command (rule R88), an operand outside its type (U10), or operand bytes that are missing; safe, and the spec's own. -/
  | undecodable (e : DecodeError)
  /-- Answered by `LD.CMD` for a command word that is none of the eight write commands (rule R88, U26); safe, and the
  spec's own. -/
  | notACommand (word : CommandWord)
  /-- Answered by every operation or event asked for by an agent that may not issue it (rules R66, R104, R220, R226);
  safe, and the spec's own. -/
  | wrongContext
  /-- Answered by `TC.SAMPLE` while `RUN = 0` (rule R104); safe, and the spec's own. -/
  | notStarted
  /-- Answered by every host operation issued while another is in flight (rules R104, R168, R204, R243); safe, and the
  spec's own. -/
  | operationInFlight
  /-- Answered by `FMT.FORMAT` for a V of more than `FMT_WIDTH` bits (rule R85: it is no operand of the operation);
  safe: nothing is claimed of it. -/
  | operandTooWide
  deriving DecidableEq, Repr

/-! ### Reset -/

/-- The controller as the model has it at power-up: in the 8-bit state (rules R25, R187); every other element is
unspecified there and holds the value log entry 8 names. -/
def Controller.powerUp : Controller where
  mode := .eight
  half := .upper
  up := 0#4
  readHalf := .upper
  ac := 0#7
  ddram := []
  busy := false
  incrementCursor := false
  shiftDisplay := false
  displayOn := false
  cursorOn := false
  cursorBlink := false
  displayShift := false
  direction := false
  eightBitMode := false
  twoLineMode := false
  bigFonts := false

/-- The machine after hardware reset: the table of rule R25; an element that holds no value there (rule R26) or is
unspecified holds the value log entry 8 names. The schedule is empty: nothing has been asked for yet (rule R230). -/
def State.reset : State where
  cfg := Config.default
  cnt := 0#16
  tally := 0
  tL := 0
  rL := 0#16
  pL := false
  ovf := false
  run := false
  clksel := .internal
  ovie := false
  mask := false
  seqTc := .idle
  seqLd := .idle
  b1 := 0#8
  b2 := 0#8
  out := List.replicate 16 0#8
  outLen := 0
  outValid := false
  lines := 0#8
  ctrl := Controller.powerUp
  agent := .host
  result := none
  trace := []
  schedule := []
  draws := 0

end Sys2Proof.Machine
end

