-- ==== Sys2Proof/Machine/Operands.lean ====
section
/-! DEFINITION. Operand forms: what a display command looks like on the bus (spec 30_encoding.md rules R79 to R82, R91;
42_display_commands.md rules R142, R143, R155), the commands a unit LD operation expands into (rules R93, R170 to R173),
the cursor map (rule R172) and the digits of the formatter (spec 41_formatter.md rules R125 to R129). -/

namespace Sys2Proof.Machine

/-! ### Bus bytes -/

/-- The level of the RS line for a logical `rs` (rule R68). -/
def rsLevel (cfg : Config) (rs : Bool) : Bool := if rs then cfg.rsData else !cfg.rsData

/-- The level of the R/W line for a logical `rw` (rule R68). -/
def rwLevel (cfg : Config) (rw : Bool) : Bool := if rw then cfg.rwRead else !cfg.rwRead

/-- A level at a bit position. -/
def levelAt (level : Bool) (pos : Fin 4) : Byte := if level then 1#8 <<< pos.val else 0#8

/-- `pack(nib, rs, rw, e)` (rule R81): the nibble in bits 7:4, the four control lines at their positions. -/
def pack (cfg : Config) (nib : Nibble) (rs rw e : Bool) : Byte :=
  (nib ++ 0#4) ||| levelAt cfg.auxLevel cfg.posAux ||| levelAt e cfg.posE |||
    levelAt (rwLevel cfg rw) cfg.posRw ||| levelAt (rsLevel cfg rs) cfg.posRs

/-- The nibble a bus byte carries (rule R81). -/
def nibbleOf (b : Byte) : Nibble := b.extractLsb' 4 4

/-- The level of the Enable line in a bus byte. -/
def enableOf (cfg : Config) (b : Byte) : Bool := b.getLsbD cfg.posE.val

/-- The logical `rs` of a bus byte, recovered from the level (rule R68). -/
def rsOf (cfg : Config) (b : Byte) : Bool := b.getLsbD cfg.posRs.val == cfg.rsData

/-- The logical `rw` of a bus byte, recovered from the level (rule R68): true for a read. -/
def rwOf (cfg : Config) (b : Byte) : Bool := b.getLsbD cfg.posRw.val == cfg.rwRead

/-- The Enable level of a phase (rule R82). -/
def Phase.enable : Phase → Bool
  | .one => false
  | .two => true
  | .three => false

/-- `G(nib, rs, rw)` (rule R82). -/
def nibbleGroup (cfg : Config) (nib : Nibble) (rs rw : Bool) : List Byte :=
  [pack cfg nib rs rw false, pack cfg nib rs rw true, pack cfg nib rs rw false]

/-- The upper nibble of a payload (rule R80). -/
def upperNibble (p : Byte) : Nibble := p.extractLsb' 4 4

/-- The lower nibble of a payload (rule R80). -/
def lowerNibble (p : Byte) : Nibble := p.extractLsb' 0 4

/-- The byte of a status read's writes (rule R144): the probe nibble, RS at instruction, R/W at read. -/
def probeByte (cfg : Config) (ph : Phase) : Byte := pack cfg cfg.probeNibble false true ph.enable

/-- `S = N1 ++ N2`, the nibbles taken from bits 7:4 of the bytes read (rules R48, R79, R144). -/
def statusByte (b1 b2 : Byte) : Byte := upperNibble b1 ++ upperNibble b2

/-- `AC = S[6:0]` (rule R79). -/
def addressCounterOf (st : Byte) : BitVec 7 := st.extractLsb' 0 7

/-! ### Reading a command back off the bus (rule R91) -/

/-- One triple of `DECODE`: the nibble and the two levels, where the three bytes are a nibble group. -/
def decodeTriple (cfg : Config) (x y z : Byte) : Option (Nibble × Bool × Bool) :=
  if x = z ∧ enableOf cfg x = false ∧ y = x ||| levelAt true cfg.posE then
    some (nibbleOf y, y.getLsbD cfg.posRs.val, y.getLsbD cfg.posRw.val)
  else none

/-- The (rs, rw, payload) of an upper and a lower triple whose levels agree. -/
def joinTriples (cfg : Config) (u l : Nibble × Bool × Bool) : Option (Bool × Bool × Byte) :=
  if u.2 = l.2 then some (u.2.1 == cfg.rsData, u.2.2 == cfg.rwRead, u.1 ++ l.1) else none

/-- `DECODE(ws)` (rule R91): six bytes, or nine with the first two triples equal byte by byte; anything else fails. -/
def decodeBus (cfg : Config) : List Byte → Option (Bool × Bool × Byte)
  | [x₁, y₁, z₁, x₂, y₂, z₂] =>
    match decodeTriple cfg x₁ y₁ z₁, decodeTriple cfg x₂ y₂ z₂ with
    | some u, some l => joinTriples cfg u l
    | _, _ => none
  | [x₀, y₀, z₀, x₁, y₁, z₁, x₂, y₂, z₂] =>
    if x₀ = x₁ ∧ y₀ = y₁ ∧ z₀ = z₁ then
      match decodeTriple cfg x₁ y₁ z₁, decodeTriple cfg x₂ y₂ z₂ with
      | some u, some l => joinTriples cfg u l
      | _, _ => none
    else none
  | _ => none

/-! ### What a unit LD operation sends -/

/-- The DDRAM address of a cursor position (rule R172); none outside the grid. -/
def cursorAddress (position : Byte) : Option Nat :=
  if position.toNat ≤ 15 then some position.toNat
  else if position.toNat ≤ 31 then some (0x40 + (position.toNat - 16))
  else none

/-- The DDRAM address of the visible character at row `row`, column `column` (rule R195). -/
def displayAddress (row : Fin 2) (column : Fin 16) : Nat := 0x40 * row.val + column.val

/-- The commands an operation issues, in order (rules R93, R170 to R173): a text is cut at `LINE_CAP`. -/
def LdOp.commands (cfg : Config) : LdOp → List Command
  | .init =>
    [.functionSet cfg.initFs.1 cfg.initFs.2.1 cfg.initFs.2.2, .clearDisplay,
     .displayControls cfg.initDc.1 cfg.initDc.2.1 cfg.initDc.2.2,
     .entryModeSet cfg.initEm.1 cfg.initEm.2, .returnHome, .setDDRAMAddress 0]
  | .clear => [.clearDisplay]
  | .move a => [.setDDRAMAddress a]
  | .write text => (text.take cfg.lineCap).map .writeData
  | .cmd c => [c]
  | .status => []

/-! ### Digits (rules R125 to R129) -/

/-- Digit `k` of the integer part (rule R126). -/
def integerDigit (v m k : Nat) : Nat := v / 10 ^ (k + m) % 10

/-- Digit `j` of the fractional part, `j` from 1 (rule R126). -/
def fractionalDigit (v m j : Nat) : Nat := v / 10 ^ (m - j) % 10

/-- The scan of rule R125 for the highest non-zero digit, from position `k` down to position 1: the number of integer
digits to emit, 1 where all of them are zero. -/
def significantFrom (d : Nat → Nat) : Nat → Nat
  | 0 => 1
  | k + 1 => if d (k + 1) ≠ 0 then k + 2 else significantFrom d k

/-- `s`: the number of integer digits emitted (rule R127). -/
def significantDigits (v n m : Nat) : Nat := significantFrom (integerDigit v m) (n - 1)

/-- The character of a digit (rule R84). -/
def digitChar (d : Nat) : Byte := BitVec.ofNat 8 (0x30 + d)

/-- The decimal point (rule R84). -/
def pointChar : Byte := 0x2E#8

/-- `L = s + 1 + M` (rule R129). -/
def formattedLength (v n m : Nat) : Nat := significantDigits v n m + 1 + m

/-- The characters of the string, index 0 first (rules R84, R125). -/
def formattedString (v n m : Nat) : List Byte :=
  (List.range (significantDigits v n m)).map
      (fun i => digitChar (if 1 ≤ n then integerDigit v m (significantDigits v n m - 1 - i) else 0)) ++
    pointChar :: (List.range m).map (fun j => digitChar (fractionalDigit v m (j + 1)))

end Sys2Proof.Machine
end

