-- ==== Sys2Proof/Machine/Flags.lean ====
section
/-! DEFINITION. The flags (spec 10_state.md rules R17 to R21): the overflow-pending flag and the condition it puts on the
handler, BUSY as the block sees it, `truncated`, and the per-variant constants of the display commands. The block has
no condition codes. -/

namespace Sys2Proof.Machine

/-- `OVF` after one count from `old` (rules R18, R100): set on the wrap, otherwise as it was. -/
def ovfAfterTick (old : BitVec 16) (ovf : Bool) : Bool := if old = 0xFFFF#16 then true else ovf

/-- The handler's enable condition (rules R20, R211): pending, enabled and not masked. -/
def handlerEnabled (s : State) : Bool := s.ovf && s.ovie && !s.mask

/-- `BUSY = S[7]` (rules R19, R79). -/
def busyOf (st : Byte) : Bool := st.getLsbD 7

/-- `truncated` of `LD.WRITE` (rule R173). -/
def truncatedFlag (cfg : Config) (text : List Byte) : Bool := decide (cfg.lineCap < text.length)

/-- `repeat_upper(cmd)` (rules R17, R143): a constant of the variant, not state. -/
def repeatUpper : Command → Bool
  | .functionSet _ _ _ => true
  | _ => false

/-- `spaced(cmd)` (rule R155): a `Delay` follows each phase. -/
def spaced : Command → Bool
  | .functionSet _ _ _ => true
  | _ => false

/-- `waitclass(cmd) = long` (rule R166). -/
def longWaitClass : Command → Bool
  | .clearDisplay => true
  | .returnHome => true
  | _ => false

/-- The nibbles a command sends, in order: upper first, and the upper again where the variant repeats it (rules R47,
R142, R143). -/
def sentNibbles (cfg : Config) (c : Command) : List Nibble :=
  if repeatUpper c then
    [upperNibble (c.payload cfg.fsLayout), upperNibble (c.payload cfg.fsLayout), lowerNibble (c.payload cfg.fsLayout)]
  else [upperNibble (c.payload cfg.fsLayout), lowerNibble (c.payload cfg.fsLayout)]

/-- `SEQ(cmd)` (rule R142): the bytes a write command writes when no transfer fails. -/
def busSequence (cfg : Config) (c : Command) : List Byte :=
  (sentNibbles cfg c).flatMap (fun nib => nibbleGroup cfg nib c.rs false)

end Sys2Proof.Machine
end

