-- ==== Sys2Proof/Machine/Ops.lean ====
section
/-! DEFINITION. The named operations the meanings share: memory (DDRAM), the free values, the peers' reaction to the bus
(spec 44_controller_environment.md), the two bus primitives (spec 20_memory.md rules R41, R42), raising an error and
returning (spec 60_exceptions.md rules R200, R203), the critical section and taking the overflow interrupt (rules R63,
R102, R214, R215), and the admission of a request (rules R104, R204, R220, R226). -/

namespace Sys2Proof.Machine

/-- The three outcomes of a step of this machine. -/
abbrev Outcome := Host.Outcome State Fault Refusal

/-! ### Memory -/

/-- The byte at an address; an address with no cell reads as `Memory.blank`. -/
def Memory.read (m : Memory) (a : Nat) : Byte :=
  match m with
  | [] => Memory.blank
  | c :: t => if c.1 = a then c.2 else Memory.read t a

/-- The byte at an address replaced, the canonical form kept: writing `Memory.blank` removes the cell. -/
def Memory.write (m : Memory) (a : Nat) (b : Byte) : Memory :=
  match m with
  | [] => if b = Memory.blank then [] else [(a, b)]
  | c :: t =>
    if a < c.1 then (if b = Memory.blank then c :: t else (a, b) :: c :: t)
    else if c.1 = a then (if b = Memory.blank then t else (a, b) :: t)
    else c :: Memory.write t a b

/-- The memory that holds `f a` at every address `a`. -/
def Memory.ofBytes (f : Nat → Byte) : Memory :=
  (List.range Memory.size).filterMap (fun a => if f a = Memory.blank then none else some (a, f a))

/-! ### The visible display (rule R195) -/

/-- The character the display shows at row `row`, column `column`: the DDRAM cell `0x40 * row + column`. -/
def visibleCharacter (s : State) (row : Fin 2) (column : Fin 16) : Byte :=
  Memory.read s.ctrl.ddram (displayAddress row column)

/-- The sixteen characters of a row, column 0 first. -/
def visibleRow (s : State) (row : Fin 2) : List Byte := (List.finRange 16).map (visibleCharacter s row)

/-! ### Free values (rule R7's `draw`) -/

/-- A free mode. -/
def freeMode (b : Byte) : Mode :=
  match b.toNat % 4 with
  | 0 => .eight
  | 1 => .four
  | _ => .unknown

/-- A free half. -/
def freeHalf (b : Byte) : Half := if b.getLsbD 0 then .lower else .upper

/-- A controller every element of which is free: draw `n` (U19, U21 to U25). -/
def freeController (n : Nat) : Controller where
  mode := freeMode (Config.freeByte n 0)
  half := freeHalf (Config.freeByte n 1)
  up := (Config.freeByte n 2).extractLsb' 0 4
  readHalf := freeHalf (Config.freeByte n 3)
  ac := (Config.freeByte n 4).extractLsb' 0 7
  ddram := Memory.ofBytes (fun a => Config.freeByte n (16 + a))
  busy := (Config.freeByte n 5).getLsbD 0
  incrementCursor := (Config.freeByte n 6).getLsbD 0
  shiftDisplay := (Config.freeByte n 7).getLsbD 0
  displayOn := (Config.freeByte n 8).getLsbD 0
  cursorOn := (Config.freeByte n 9).getLsbD 0
  cursorBlink := (Config.freeByte n 10).getLsbD 0
  displayShift := (Config.freeByte n 11).getLsbD 0
  direction := (Config.freeByte n 12).getLsbD 0
  eightBitMode := (Config.freeByte n 13).getLsbD 0
  twoLineMode := (Config.freeByte n 14).getLsbD 0
  bigFonts := (Config.freeByte n 15).getLsbD 0

/-- The peer's state becomes any value. -/
def drawController (s : State) : State :=
  { s with ctrl := freeController s.draws, draws := s.draws + 1 }

/-- What a command without a meaning leaves: the nibble pairing and BUSY go on (vectors P4, P5), every other element of
the controller is any value (rules R88, R196; log entry 9). -/
def drawContents (s : State) : State :=
  { s with
    ctrl := { freeController s.draws with
      mode := s.ctrl.mode, half := s.ctrl.half, up := s.ctrl.up, readHalf := s.ctrl.readHalf, busy := s.ctrl.busy }
    draws := s.draws + 1 }

/-- The controller's state replaced. -/
def setController (c : Controller) (s : State) : State := { s with ctrl := c }

/-! ### The display controller (rules R187 to R197) -/

/-- Where the address counter goes after a data write (rule R193): the next address, counting up from 0x00 to 0x0E or
from 0x40 to 0x4E; none at any other address and counting down, where no source gives the successor (U28; log entry 10). -/
def addressSuccessor (increment : Bool) (ac : BitVec 7) : Option (BitVec 7) :=
  if increment = true ∧ (ac.toNat < 0x0F ∨ (0x40 ≤ ac.toNat ∧ ac.toNat < 0x4F)) then some (ac + 1#7) else none

/-- The address counter moved after a data write; a free address where the successor is not given. -/
def advanceAddress (s : State) : State :=
  match addressSuccessor s.ctrl.incrementCursor s.ctrl.ac with
  | some a => { s with ctrl := { s.ctrl with ac := a } }
  | none =>
    { s with ctrl := { s.ctrl with ac := (Config.freeByte s.draws 0).extractLsb' 0 7 }, draws := s.draws + 1 }

/-- What a whole command does at the controller (rules R190 to R194); a word of rule R88 has no meaning there (R196). -/
def controllerCommand (c : Option Command) (s : State) : State :=
  match c with
  | some .clearDisplay => { s with ctrl := { s.ctrl with ac := 0#7, ddram := [] } }
  | some .returnHome => { s with ctrl := { s.ctrl with ac := 0#7 } }
  | some (.entryModeSet i d) => { s with ctrl := { s.ctrl with incrementCursor := i, shiftDisplay := d } }
  | some (.displayControls d u b) =>
    { s with ctrl := { s.ctrl with displayOn := d, cursorOn := u, cursorBlink := b } }
  | some (.cursorDisplayShift sc rl) => { s with ctrl := { s.ctrl with displayShift := sc, direction := rl } }
  | some (.functionSet dl n f) =>
    { s with ctrl := { s.ctrl with eightBitMode := dl, twoLineMode := n, bigFonts := f } }
  | some (.setDDRAMAddress a) => { s with ctrl := { s.ctrl with ac := BitVec.ofNat 7 a } }
  | some (.writeData b) =>
    advanceAddress { s with ctrl := { s.ctrl with ddram := Memory.write s.ctrl.ddram s.ctrl.ac.toNat b } }
  | none => drawContents s

/-- The command word a controller has received: RS and a whole byte, written (rule R197). -/
def receivedWord (rs : Bool) (p : Byte) : CommandWord := 0b0#1 ++ BitVec.ofBool rs ++ p

/-- A nibble latched for a write (rules R187, R197). In the 8-bit state a pulse is a whole command and only FunctionSet
with DL = 0 has a meaning; in the 4-bit state nibbles pair up, and the second one executes the command and sets BUSY
(rule R189). In the 4-bit state a nibble sent while BUSY is 1 leaves any value (U25), and so does any nibble with the
mode unknown (U21). MODEL'S CHOICE (log entry 26): in the 8-bit state the mode-set pulse is taken whatever BUSY is, and
leaves BUSY as it was. MODEL'S CHOICE (log entry 27): no nibble written, and no change of mode, moves the controller back
to the first half of a status byte. -/
def latchNibble (rs : Bool) (nib : Nibble) (s : State) : State :=
  match s.ctrl.mode with
  | .eight =>
    if nib = 0b0010#4 ∧ rs = false then { s with ctrl := { s.ctrl with mode := .four, half := .upper } }
    else drawController s
  | .four =>
    if s.ctrl.busy then drawController s
    else match s.ctrl.half with
      | .upper => { s with ctrl := { s.ctrl with up := nib, half := .lower } }
      | .lower =>
        controllerCommand (classify s.cfg.fsLayout (receivedWord rs (s.ctrl.up ++ nib)))
          { s with ctrl := { s.ctrl with half := .upper, busy := true } }
  | .unknown => drawController s

/-- The other half. -/
def Half.other : Half → Half
  | .upper => .lower
  | .lower => .upper

/-- What the controller makes of the lines going from `was` to `now` (rules R188, R197): it acts on Enable going from
high to low, and then takes a nibble (R/W at write) or moves to the other half of the status byte (R/W at read). Where
the nibble, RS or R/W changes in the same instant as Enable falls, or the data register is read, the source gives no
reaction and the controller's state is any value (log entry 11). MODEL'S CHOICE (log entry 27): only an Enable pulse of a
status read moves the half driven next, so the half reached by an aborted status read outlasts the writes after it. -/
def controllerEdge (was now : Byte) (s : State) : State :=
  if enableOf s.cfg was = true ∧ enableOf s.cfg now = false then
    if nibbleOf was = nibbleOf now ∧ rsOf s.cfg was = rsOf s.cfg now ∧ rwOf s.cfg was = rwOf s.cfg now then
      if rwOf s.cfg now then
        if rsOf s.cfg now then drawController s
        else { s with ctrl := { s.ctrl with readHalf := s.ctrl.readHalf.other } }
      else latchNibble (rsOf s.cfg now) (nibbleOf now) s
    else drawController s
  else s

/-- The controller is driving lines 7:4 with its status byte (rules R185, R188): R/W at read, RS at instruction, Enable
high, and in the 4-bit protocol. -/
def statusDriven (s : State) : Bool :=
  rwOf s.cfg s.lines && enableOf s.cfg s.lines && !rsOf s.cfg s.lines && (s.ctrl.mode == .four)

/-- The byte a successful read returns when the oracle's byte is `v`: `v` itself on the bare oracle's path (rule R42);
on the reference environment's, the line levels: bits 3:0 as last written, bits 7:4 from the controller while it is
read (BUSY is the oracle's answer, rule R189), otherwise as last written (rules R185, R188). -/
def readValue (v : Byte) (s : State) : Byte :=
  match s.cfg.readPath with
  | .bareOracle => v
  | .referenceEnvironment =>
    if statusDriven s then
      match s.ctrl.readHalf with
      | .upper => v.extractLsb' 7 1 ++ s.ctrl.ac.extractLsb' 4 3 ++ s.lines.extractLsb' 0 4
      | .lower => s.ctrl.ac.extractLsb' 0 4 ++ s.lines.extractLsb' 0 4
    else if rwOf s.cfg s.lines && enableOf s.cfg s.lines then
      v.extractLsb' 4 4 ++ s.lines.extractLsb' 0 4
    else s.lines

/-- The controller has finished its command: BUSY returns to 0, after a time that is an input (rule R189; log entry 14)
and at the latest when the busy wait after the command ends (rule R62). -/
def controllerReady (s : State) : State := { s with ctrl := { s.ctrl with busy := false } }

/-! ### The bus primitives and the delay -/

/-- The answer is `Ok`. -/
def Answer.isOk : Answer → Bool
  | .ok _ => true
  | .fail _ => false

/-- An event added to the trace. -/
def emit (e : Event) (s : State) : State := { s with trace := s.trace ++ [e] }

/-- `BusWrite(LCD_ADDR, b)` (rules R41, R43, R185): on `Ok` the lines take the bits of `b`; on `Fail` they are as the
oracle leaves them, and if that changed them the controller's state is any value (U19, U22). -/
def busWrite (b : Byte) (ans : Answer) (s : State) : State :=
  match ans with
  | .ok _ => emit (.wrote s.cfg.lcdAddr b) { controllerEdge s.lines b s with lines := b }
  | .fail l =>
    emit (.writeFailed s.cfg.lcdAddr b) { (if l = s.lines then s else drawController s) with lines := l }

/-- The byte `BusRead(LCD_ADDR)` returns on `Ok` (rule R42). -/
def busReadByte (v : Byte) (s : State) : Byte := readValue v s

/-- `BusRead(LCD_ADDR)` (rules R42, R43, R56): an event, and nothing changes at the bridge or the controller. The BUSY it
shows is the oracle's answer, and the controller's own BUSY is no part of the read (log entry 29). -/
def busRead (ans : Answer) (s : State) : State :=
  match ans with
  | .ok v => emit (.read s.cfg.lcdAddr (busReadByte v s)) s
  | .fail _ => emit (.readFailed s.cfg.lcdAddr) s

/-- `Delay(t)` (rule R240): an event and nothing else. -/
def delay (us : Nat) (s : State) : State := emit (.delay us) s

/-! ### Returning and raising (rules R200, R203) -/

/-- A unit LD operation returns `r` to its caller; its sequencer is idle again. -/
def finishLd (r : Result) (s : State) : State := { s with seqLd := .idle, result := some r }

/-- `raise E(info)` inside a unit LD operation: no further step, nothing rolled back, the error to the caller. -/
def raiseLd (e : OpError) (s : State) : State := finishLd (.error e) s

/-- An operation of one step returns `r`. -/
def returnResult (r : Result) (s : State) : State := { s with result := some r }

/-- The codes of rule R201. -/
def Result.code : Result → Nat
  | .ok => 0
  | .tickCount _ => 0
  | .written _ => 0
  | .status _ _ => 0
  | .error (.busError _ _) => 1
  | .error .busyTimeout => 2
  | .error (.positionRange _) => 3
  | .error (.fmtCapacity _) => 4
  | .error .fmtRange => 5

/-! ### The critical section and the overflow interrupt -/

/-- `MASK <- 1` (rule R63). -/
def enterCritical (s : State) : State := { s with mask := true }

/-- `MASK <- 0` (rule R63). -/
def leaveCritical (s : State) : State := { s with mask := false }

/-- The handler's write of the tally: one more, modulo `2^TALLY_WIDTH`, and the pending flag cleared (rule R102). -/
def countOverflow (s : State) : State :=
  { s with tally := (s.tally + 1) % 2 ^ s.cfg.tallyWidth, ovf := false }

/-- Taking the overflow interrupt: entry saves and changes nothing (rule R214), the handler's one atomic step runs in
its own critical section (rule R102), and the host resumes with all its state as it left it (rule R215). -/
def takeOverflow (s : State) : State := leaveCritical (countOverflow (enterCritical s))

/-- The return to normal context after any step (rules R215, R220): the next step is the host's unless the schedule says
otherwise. -/
def resumeHost (s : State) : State := { s with agent := .host }

/-! ### Admission -/

/-- An operation is in flight: the one host thread can issue nothing else (rules R15, R16, R168). -/
def inFlight (s : State) : Bool := s.seqTc != .idle || s.seqLd != .idle

/-- A host operation is admitted in normal context with nothing in flight; otherwise it is refused (rules R104, R204,
R226). -/
def hostOperation (s : State) (go : Outcome) : Outcome :=
  if s.agent ≠ .host then .refused .wrongContext
  else if inFlight s then .refused .operationInFlight
  else go

/-- An event belongs to one agent; nobody else can issue it (rules R66, R100, R102). -/
def eventOf (who : Agent) (s : State) (go : Outcome) : Outcome :=
  if s.agent ≠ who then .refused .wrongContext else go

/-- Where an operation of unit LD starts: at the first phase of its first command, or of a status read (rule R16). -/
def LdOp.firstPlace : LdOp → Place
  | .status => .probe .upper .one
  | _ => .phase 0 .one

/-- The sequencer at the start of an operation (rule R16). -/
def LdRun.start (op : LdOp) : LdRun where
  op := op
  cmd := 0
  place := op.firstPlace
  polls := 0
  transfers := 0

/-- A unit LD operation is issued: its operands are captured (rule R64) and its sequencer is at its first phase. -/
def beginLd (op : LdOp) (s : State) : State :=
  { s with seqLd := .active (LdRun.start op), result := none }

/-! ### The output string -/

/-- A character of the output string, where it holds a value: after an `Ok`, below `OUT_LEN` (rule R26, U13). -/
def outChar (s : State) (i : Nat) : Option Byte :=
  if s.outValid ∧ i < s.outLen then s.out[i]? else none

/-- `OUT[i] <- c` for each character of a string, and `OUT_LEN` (rule R125); bytes at and beyond the length are not
written (rule R46). -/
def writeOut (str : List Byte) (s : State) : State :=
  { s with out := str ++ s.out.drop str.length, outLen := str.length, outValid := true }

/-- `OUT` and `OUT_LEN` hold no value: nothing is written (rules R26, R130). -/
def voidOut (s : State) : State := { s with outValid := false }

end Sys2Proof.Machine
end

