-- ==== Sys2Proof/Machine/Sequencers.lean ====
section
/-! DEFINITION. What the host's next step of an operation in flight does: the micro-steps of `TC.SAMPLE` (spec
40_tick_counter.md rule R103) and the phases, delays, status reads and waits of a unit LD operation (spec
42_display_commands.md rules R141 to R144, R154, R155; 43_display_operations.md rules R165 to R167). -/

namespace Sys2Proof.Machine

/-! ### TC.SAMPLE -/

/-- The result of step S6 (rules R103, R109). -/
def sampleCount (s : State) : Nat :=
  ((s.tL + s.pL.toNat) * 65536 + s.rL.toNat) % 2 ^ s.cfg.tickWidth

/-- The micro-step after S2: S3, or S34 where the two reads are one (rules R15, R103). -/
def captureStep (cfg : Config) : SeqTc :=
  match cfg.capture with
  | .split => .s3
  | .atomic => .s34

/-- One micro-step of the sample in progress (rule R103). MODEL'S CHOICE (log entry 25): after S6 the latches `T_L`, `R_L`
and `P_L` keep their values, though they hold none outside a sample (rule R13); nothing reads them there. -/
def sampleStep (s : State) : State :=
  match s.seqTc with
  | .idle => s
  | .s1 => { enterCritical s with seqTc := .s2 }
  | .s2 => { s with tL := s.tally, seqTc := captureStep s.cfg }
  | .s3 => { s with rL := s.cnt, seqTc := .s4 }
  | .s4 => { s with pL := s.ovf, seqTc := .s5 }
  | .s34 => { s with rL := s.cnt, pL := s.ovf, seqTc := .s5 }
  | .s5 => { leaveCritical s with seqTc := .s6 }
  | .s6 => { s with seqTc := .idle, result := some (.tickCount (sampleCount s)) }

/-! ### Unit LD -/

/-- What an operation returns when its last wait has ended (rules R170 to R173). -/
def LdOp.finalResult (cfg : Config) : LdOp → Result
  | .init => .ok
  | .clear => .ok
  | .move _ => .ok
  | .write text => .written (truncatedFlag cfg text)
  | .cmd _ => .ok
  | .status => .ok

/-- The command the operation is sending (rule R16). -/
def LdRun.command (cfg : Config) (r : LdRun) : Option Command := (r.op.commands cfg)[r.cmd]?

/-- The sequencer moved on. -/
def setRun (r : LdRun) (s : State) : State := { s with seqLd := .active r }

/-- A transfer counted (rule R201: the index a `BusError` records). -/
def LdRun.counted (r : LdRun) : LdRun := { r with transfers := r.transfers + 1 }

/-- The sequencer at a place of the same command. -/
def LdRun.goTo (p : Place) (r : LdRun) : LdRun := { r with place := p }

/-- `BUSY_WAIT` from its start (rule R167): the first status read of a new wait. -/
def LdRun.startPoll (r : LdRun) : LdRun := { r with place := .probe .upper .one, polls := 0 }

/-- The next command of the operation, from its first phase. -/
def LdRun.nextCommand (r : LdRun) : LdRun := { r with cmd := r.cmd + 1, place := .phase 0 .one, polls := 0 }

/-- The command's wait has ended: the next command, or the operation returns (rule R165). -/
def afterCommand (r : LdRun) (s : State) : State :=
  if r.cmd + 1 < (r.op.commands s.cfg).length then setRun r.nextCommand s
  else finishLd (r.op.finalResult s.cfg) s

/-- The command has been sent: a bare `SEND` returns (rule R142); inside an operation the wait follows (rule R166). -/
def afterSend (r : LdRun) (c : Command) (s : State) : State :=
  match r.op with
  | .cmd _ => finishLd (r.op.finalResult s.cfg) s
  | _ =>
    if longWaitClass c = true ∧ s.cfg.longWait = .delay then setRun (r.goTo .longDelay) s
    else setRun r.startPoll s

/-- The phase, with its delay if it has one, is over: the next phase, the next group, or the end of the command. -/
def afterPhase (r : LdRun) (c : Command) (group : Nat) (ph : Phase) (s : State) : State :=
  match ph with
  | .one => setRun (r.goTo (.phase group .two)) s
  | .two => setRun (r.goTo (.phase group .three)) s
  | .three =>
    if group + 1 < (sentNibbles s.cfg c).length then setRun (r.goTo (.phase (group + 1) .one)) s
    else afterSend r c s

/-- The whole status read is in: `LD.STATUS` returns it (rule R153); a busy wait ends, gives up at `POLL_LIMIT`, or
reads again (rule R167). A wait that ends has the controller's completion of the command before it (rule R62), so the
controller is ready then, whether or not the schedule had it finish earlier (log entry 29). -/
def afterStatus (r : LdRun) (s : State) : State :=
  match r.op with
  | .status =>
    finishLd (.status (busyOf (statusByte s.b1 s.b2)) (addressCounterOf (statusByte s.b1 s.b2))) s
  | _ =>
    if busyOf (statusByte s.b1 s.b2) = false then afterCommand r (controllerReady s)
    else match s.cfg.pollLimit with
      | some limit =>
        if limit ≤ r.polls + 1 then raiseLd .busyTimeout s
        else setRun { r with polls := r.polls + 1, place := .probe .upper .one } s
      | none => setRun { r with polls := r.polls + 1, place := .probe .upper .one } s

/-- A probe write of a status read is done (rule R144): the next write, the read, the other half, or the end. -/
def afterProbe (r : LdRun) (half : Half) (ph : Phase) (s : State) : State :=
  match ph with
  | .one => setRun (r.goTo (.probe half .two)) s
  | .two => setRun (r.goTo (.read half)) s
  | .three =>
    match half with
    | .upper => setRun (r.goTo (.probe .lower .one)) s
    | .lower => afterStatus r s

/-- `B1 <- b` or `B2 <- b` (rule R144). MODEL'S CHOICE (log entry 25): `B1` and `B2` keep the last bytes read after the
status read ends or fails, though they hold no value there (rule R26); nothing reads them there. -/
def latchStatus (half : Half) (b : Byte) (s : State) : State :=
  match half with
  | .upper => { s with b1 := b }
  | .lower => { s with b2 := b }

/-- The end of a write: on `Fail` the operation raises `BusError` with the transfer's kind and index (rules R154, R201,
R203), otherwise `k` goes on with the transfer counted. -/
def afterWrite (r : LdRun) (ans : Answer) (k : LdRun → State → State) (s : State) : State :=
  if ans.isOk then k r.counted s else raiseLd (.busError .write r.transfers) s

/-- A write phase of the command in flight (rule R141). -/
def phaseStep (r : LdRun) (c : Command) (nib : Nibble) (group : Nat) (ph : Phase) (ans : Answer) (s : State) : State :=
  afterWrite r ans
    (fun q => if spaced c then setRun (q.goTo (.gap group ph)) else afterPhase q c group ph)
    (busWrite (pack s.cfg nib c.rs false ph.enable) ans s)

/-- A probe write of a status read (rule R144). -/
def probeStep (r : LdRun) (half : Half) (ph : Phase) (ans : Answer) (s : State) : State :=
  afterWrite r ans (fun q => afterProbe q half ph) (busWrite (probeByte s.cfg ph) ans s)

/-- A read of a status read (rule R144): the byte is latched, or `BusError` is raised with the kind read. -/
def readStep (r : LdRun) (half : Half) (ans : Answer) (s : State) : State :=
  match ans with
  | .ok v =>
    setRun (r.counted.goTo (.probe half .three)) (latchStatus half (busReadByte v s) (busRead ans s))
  | .fail _ => raiseLd (.busError .read r.transfers) (busRead ans s)

/-- The command in flight and the nibble of one of its groups; none at a place the operation does not have. -/
def LdRun.nibble (cfg : Config) (r : LdRun) (group : Nat) : Option (Command × Nibble) :=
  match r.command cfg with
  | none => none
  | some c =>
    match (sentNibbles cfg c)[group]? with
    | none => none
    | some nib => some (c, nib)

/-- One host step of the unit LD operation in flight. -/
def ldStep (r : LdRun) (ans : Answer) (s : State) : Outcome :=
  match r.place with
  | .phase group ph =>
    match r.nibble s.cfg group with
    | none => .fault .seqLdOffSequence
    | some (c, nib) => .next (phaseStep r c nib group ph ans s)
  | .gap group ph =>
    match r.nibble s.cfg group with
    | none => .fault .seqLdOffSequence
    | some (c, _) => .next (afterPhase r c group ph (delay s.cfg.tPhaseUs s))
  | .probe half ph => .next (probeStep r half ph ans s)
  | .read half => .next (readStep r half ans s)
  | .longDelay => .next (afterCommand r (delay s.cfg.tLongUs s))

/-- The host's next step of whatever is in flight; with nothing in flight there is none to take (rule R60). -/
def hostStep (ans : Answer) (s : State) : Outcome :=
  match s.seqTc with
  | .idle =>
    match s.seqLd with
    | .idle => .next s
    | .active r => ldStep r ans s
  | _ => .next (sampleStep s)

/-! ### Fetching a request -/

/-- The instruction an entry of the schedule asks for, read by the decoder under the machine's FunctionSet layout. -/
def fetch (s : State) (fmt : Format) (bytes : List Byte) : Decoded := decode s.cfg.fsLayout fmt bytes

/-- The state an instruction is executed in: its entry taken off the schedule, its agent the one taking the step. -/
def openStep (who : Agent) (rest : List Slot) (s : State) : State := { s with schedule := rest, agent := who }

/-- The outcome of a step, with the host the next to run. -/
def closeStep : Outcome → Outcome
  | .next s => .next (resumeHost s)
  | .fault r => .fault r
  | .refused r => .refused r

/-- The agent an instruction belongs to (rules R66, R220): events to the tick source and the handler, all else to the
host. -/
def issuer : Instr → Agent
  | .tcTick => .tickSource
  | .tcOvf => .handler
  | _ => .host

end Sys2Proof.Machine
end

