-- ==== Sys2Proof/Machine/Commands.lean ====
section
/-! DEFINITION. Unit LD, the nine command words of format CW: the meanings of the eight write commands, each `SEND` of
itself (spec 42_display_commands.md rules R142, R145 to R152), and of the status read (rules R144, R153). -/

namespace Sys2Proof.Machine

/-- `SEND(cmd)` issued (rule R142). -/
def sendCommand (c : Command) (s : State) : Outcome := hostOperation s (.next (beginLd (.cmd c) s))

/-- ClearDisplay (rule R145). -/
def execClearDisplay (s : State) : Outcome := sendCommand .clearDisplay s

/-- ReturnHome (rule R146). -/
def execReturnHome (s : State) : Outcome := sendCommand .returnHome s

/-- EntryModeSet (rule R147). -/
def execEntryModeSet (incrementCursor shiftDisplay : Bool) (s : State) : Outcome :=
  sendCommand (.entryModeSet incrementCursor shiftDisplay) s

/-- DisplayControls (rule R148). -/
def execDisplayControls (displayOn cursorOn cursorBlink : Bool) (s : State) : Outcome :=
  sendCommand (.displayControls displayOn cursorOn cursorBlink) s

/-- CursorDisplayShift (rule R149). -/
def execCursorDisplayShift (shift direction : Bool) (s : State) : Outcome :=
  sendCommand (.cursorDisplayShift shift direction) s

/-- FunctionSet (rule R150). -/
def execFunctionSet (eightBitMode twoLineMode bigFonts : Bool) (s : State) : Outcome :=
  sendCommand (.functionSet eightBitMode twoLineMode bigFonts) s

/-- SetDDRAMAddress (rule R151): the address is any natural number, its payload keeps the low seven bits. -/
def execSetDDRAMAddress (address : Nat) (s : State) : Outcome := sendCommand (.setDDRAMAddress address) s

/-- WriteData (rule R152). -/
def execWriteData (byte : Byte) (s : State) : Outcome := sendCommand (.writeData byte) s

/-- The status read (rule R153), the same step as `LD.STATUS`; the payload bits of its word are not sent (rule R69). -/
def execStatusRead (_unused : Byte) (s : State) : Outcome := hostOperation s (.next (beginLd .status s))

end Sys2Proof.Machine
end

