-- ==== Sys2Proof/Machine/Display.lean ====
section
/-! DEFINITION. Unit LD, the public operations and the two internal selectors: the meanings of `LD.INIT`, `LD.CLEAR`,
`LD.MOVE`, `LD.WRITE`, `LD.CMD` and `LD.STATUS` (spec 43_display_operations.md rules R170 to R173; 42_display_commands.md
rules R142, R153). Each is issued here and carried out by the host steps of Sequencers.lean, one bus phase or delay at a
time (rule R212). -/

namespace Sys2Proof.Machine

/-- `LD.INIT` (rule R170). -/
def execLdInit (s : State) : Outcome := hostOperation s (.next (beginLd .init s))

/-- `LD.CLEAR` (rule R171). -/
def execLdClear (s : State) : Outcome := hostOperation s (.next (beginLd .clear s))

/-- The body of `LD.MOVE` (rule R172): outside the grid no transfer is made, and what is returned is `STRICT_RANGE`'s. -/
def moveStep (position : Byte) (s : State) : State :=
  match cursorAddress position with
  | some a => beginLd (.move a) s
  | none =>
    if s.cfg.strictRange then returnResult (.error (.positionRange position)) s else returnResult .ok s

/-- `LD.MOVE` (rule R172). -/
def execLdMove (position : Byte) (s : State) : Outcome := hostOperation s (.next (moveStep position s))

/-- The body of `LD.WRITE` (rule R173): with no byte to send it returns at once. -/
def writeStep (text : List Byte) (s : State) : State :=
  if text.take s.cfg.lineCap = [] then returnResult (.written (truncatedFlag s.cfg text)) s
  else beginLd (.write text) s

/-- `LD.WRITE` (rule R173). -/
def execLdWrite (text : List Byte) (s : State) : Outcome := hostOperation s (.next (writeStep text s))

/-- `LD.CMD` (rules R66, R142): `SEND` of the write command its word spells; a word that spells none is refused (rule
R88). -/
def execLdCmd (word : CommandWord) (s : State) : Outcome :=
  hostOperation s
    (match classify s.cfg.fsLayout word with
     | some c => .next (beginLd (.cmd c) s)
     | none => .refused (.notACommand word))

/-- `LD.STATUS` (rule R153). -/
def execLdStatus (s : State) : Outcome := hostOperation s (.next (beginLd .status s))

end Sys2Proof.Machine
end

