-- ==== Sys2Proof/Machine/Format.lean ====
section
/-! DEFINITION. Unit FMT, the fixed-point decimal formatter: the meaning of `FMT.FORMAT` (spec 41_formatter.md rules R125
to R131). -/

namespace Sys2Proof.Machine

/-- The body of `FMT.FORMAT` (rule R125): the range test, then the capacity test, then the string (rules R130, R205). -/
def formatStep (v n m : Nat) (s : State) : State :=
  if 10 ^ (n + m) ≤ v then returnResult (.error .fmtRange) (voidOut s)
  else if s.cfg.fmtCap < formattedLength v n m then
    returnResult (.error (.fmtCapacity (formattedLength v n m))) (voidOut s)
  else returnResult .ok (writeOut (formattedString v n m) s)

/-- `FMT.FORMAT` (rule R125), a host operation of one step. V is an unsigned number of `FMT_WIDTH` bits (rule R85). -/
def execFmtFormat (v n m : Nat) (s : State) : Outcome :=
  hostOperation s (if v < 2 ^ s.cfg.fmtWidth then .next (formatStep v n m s) else .refused .operandTooWide)

end Sys2Proof.Machine
end

