-- ==== Sys2Proof/Machine/Tick.lean ====
section
/-! DEFINITION. Unit TC, the tick counter: the meanings of `TC.START`, `TC.SAMPLE`, `TC.TICK` and `TC.OVF` (spec
40_tick_counter.md rules R100 to R104). -/

namespace Sys2Proof.Machine

/-- The atomic step of `TC.START` between entering and leaving its critical section (rule R101). MODEL'S CHOICE (log entry
25): the latches of an earlier sample, which hold no value then (rule R25), keep what they held. -/
def startTimer (source : ClockSource) (s : State) : State :=
  { s with clksel := source, cnt := 0#16, ovf := false, tally := 0, ovie := true, run := true }

/-- `TC.START` (rule R101), a host operation of one step. -/
def execTcStart (source : ClockSource) (s : State) : Outcome :=
  hostOperation s (.next (returnResult .ok (leaveCritical (startTimer source (enterCritical s)))))

/-- `TC.SAMPLE` (rules R103, R104): refused while `RUN = 0`, otherwise issued, with its micro-steps S1 to S6 to follow as
the host's next steps (log entry 12). -/
def execTcSample (s : State) : Outcome :=
  hostOperation s (if s.run then .next { s with seqTc := .s1, result := none } else .refused .notStarted)

/-- One count of the timer (rule R100). -/
def countTick (s : State) : State := { s with cnt := s.cnt + 1#16, ovf := ovfAfterTick s.cnt s.ovf }

/-- `TC.TICK` (rule R100): with `RUN = 0` the step is not enabled and nothing changes (log entry 13). -/
def execTcTick (s : State) : Outcome :=
  eventOf .tickSource s (.next (if s.run then countTick s else s))

/-- `TC.OVF` (rules R20, R102): the overflow interrupt is taken where the handler is enabled; where it is not, the step
is not enabled and nothing changes (log entry 13). -/
def execTcOvf (s : State) : Outcome :=
  eventOf .handler s (.next (if handlerEnabled s then takeOverflow s else s))

end Sys2Proof.Machine
end

