-- ==== Sys2Proof/Machine/Dispatch.lean ====
section
/-! DEFINITION. `exec`: one arm per constructor of `Instr`, each one call of that instruction's meaning. -/

namespace Sys2Proof.Machine

def exec (i : Instr) (s : State) : Host.Outcome State Fault Refusal :=
  match i with
  | .tcStart source => Sys2Proof.Machine.execTcStart source s
  | .tcSample => Sys2Proof.Machine.execTcSample s
  | .tcTick => Sys2Proof.Machine.execTcTick s
  | .tcOvf => Sys2Proof.Machine.execTcOvf s
  | .fmtFormat v n m => Sys2Proof.Machine.execFmtFormat v n m s
  | .ldInit => Sys2Proof.Machine.execLdInit s
  | .ldClear => Sys2Proof.Machine.execLdClear s
  | .ldMove position => Sys2Proof.Machine.execLdMove position s
  | .ldWrite text => Sys2Proof.Machine.execLdWrite text s
  | .ldCmd word => Sys2Proof.Machine.execLdCmd word s
  | .ldStatus => Sys2Proof.Machine.execLdStatus s
  | .clearDisplay => Sys2Proof.Machine.execClearDisplay s
  | .returnHome => Sys2Proof.Machine.execReturnHome s
  | .entryModeSet i1 sd => Sys2Proof.Machine.execEntryModeSet i1 sd s
  | .displayControls d c b => Sys2Proof.Machine.execDisplayControls d c b s
  | .cursorDisplayShift sc rl => Sys2Proof.Machine.execCursorDisplayShift sc rl s
  | .functionSet dl n f => Sys2Proof.Machine.execFunctionSet dl n f s
  | .setDDRAMAddress address => Sys2Proof.Machine.execSetDDRAMAddress address s
  | .writeData byte => Sys2Proof.Machine.execWriteData byte s
  | .statusRead unused => Sys2Proof.Machine.execStatusRead unused s

end Sys2Proof.Machine
end

