-- ==== Sys2Proof/Machine/Step.lean ====
section
/-! DEFINITION. One step of the machine: the next entry of the schedule is taken (spec 00_scope.md rules R8, R9;
60_exceptions.md rules R212, R213). The block has no program counter and no instruction memory (rule R14): a request
stands in the schedule and is decoded from its bytes. With nothing scheduled nothing happens (log entry 1). -/

namespace Sys2Proof.Machine

def step (s : State) : Host.Outcome State Fault Refusal :=
  match s.schedule with
  | [] => .next s
  | .request who fmt bytes :: rest =>
    match fetch s fmt bytes with
    | .ok i _ => closeStep (exec i (openStep who rest s))
    | .bad e => .refused (.undecodable e)
  | .proceed ans :: rest => closeStep (hostStep ans (openStep .host rest s))
  | .ready :: rest => closeStep (.next (controllerReady (openStep .host rest s)))

/-- The schedule with the instruction of a table word as its next entry, asked for by the agent the instruction belongs
to. Nothing else changes. -/
def State.withFetchWord (s : State) (nbits w : Nat) : State :=
  { s with
    schedule :=
      .request (match decodeTableWord nbits w with | some i => issuer i | none => .host)
        (tableFormat nbits) (tableBytes nbits w) :: s.schedule }

end Sys2Proof.Machine
end

