-- ==== Sys2Proof/WellFormed.lean ====
section
/-! DEFINITION. When the operands of an instruction are values of their types (rules R66, R86) under the parameters of
rule R6. Every other instruction is well formed whatever its operands. -/

namespace Sys2Proof

/-- V has `FMT_WIDTH` bits (rule R85); LD.CMD carries one of the eight write commands (rules R66, R88); a command word
carries seven address bits, so an instruction that is to be written as one has an address below 128 (rule R77). -/
def WellFormed (cfg : Config) : Instr → Bool
  | .tcStart _ => true
  | .tcSample => true
  | .tcTick => true
  | .tcOvf => true
  | .fmtFormat v _ _ => decide (v < 2 ^ cfg.fmtWidth)
  | .ldInit => true
  | .ldClear => true
  | .ldMove _ => true
  | .ldWrite _ => true
  | .ldCmd w => (classify cfg.fsLayout w).isSome
  | .ldStatus => true
  | .clearDisplay => true
  | .returnHome => true
  | .entryModeSet _ _ => true
  | .displayControls _ _ _ => true
  | .cursorDisplayShift _ _ => true
  | .functionSet _ _ _ => true
  | .setDDRAMAddress a => decide (a < 128)
  | .writeData _ => true
  | .statusRead _ => true

end Sys2Proof
end

