-- ==== Sys2Proof/Safety.lean ====
section
/-! DEFINITION. The terms statements about the machine use: runs, the free host thread, the invariant every step keeps,
the ideal count of rules R105 to R107, and the bus traces rules R142, R144 and R166 write out. -/

namespace Sys2Proof.Machine

/-! ### Runs -/

/-- `k` steps, stopping at the first fault or refusal. -/
def steps : Nat → State → Outcome
  | 0, s => .next s
  | k + 1, s =>
    match step s with
    | .next t => steps k t
    | .fault r => .fault r
    | .refused r => .refused r

/-- The host thread is free to issue an operation: normal context, nothing in flight (rules R20, R168, R220). -/
abbrev HostFree (s : State) : Prop := s.agent = .host ∧ s.seqTc = .idle ∧ s.seqLd = .idle

/-- The state with `k` host steps scheduled next, every transfer answered `ans`, and then `rest`. -/
def State.scheduled (s : State) (k : Nat) (ans : Answer) (rest : List Slot) : State :=
  { s with schedule := List.replicate k (.proceed ans) ++ rest }

/-- A request for a one-byte selector by an agent. -/
def request (who : Agent) (sel : Byte) : Slot := .request who .op [sel]

/-- The instruction the next entry of the schedule asks for, and who asks. -/
def requested (s : State) : Option (Agent × Instr) :=
  match s.schedule with
  | .request who fmt bytes :: _ =>
    match fetch s fmt bytes with
    | .ok i _ => some (who, i)
    | .bad _ => none
  | _ => none

/-! ### The invariant -/

/-- Whether the next micro-step lies inside the critical section of a sample: after S1, up to and with S5 (rule R103). -/
def SeqTc.inside : SeqTc → Bool
  | .idle => false
  | .s1 => false
  | .s2 => true
  | .s3 => true
  | .s4 => true
  | .s34 => true
  | .s5 => true
  | .s6 => false

/-- The operation waits for the controller after each command: every operation but a bare `SEND` (rules R142, R166). -/
def LdOp.waits : LdOp → Bool
  | .cmd _ => false
  | _ => true

/-- A place that `SEQ_LD` can name (rule R16): a group the command has, a delay where the command is spaced, a status
read of `LD.STATUS` or of a wait, the fixed delay after a long command. -/
def LdRun.placed (cfg : Config) (r : LdRun) : Bool :=
  match r.place with
  | .phase group _ => (r.nibble cfg group).isSome
  | .gap group _ =>
    match r.nibble cfg group with
    | some (c, _) => spaced c
    | none => false
  | .probe _ _ => r.op == .status || (r.op.waits && (r.command cfg).isSome)
  | .read _ => r.op == .status || (r.op.waits && (r.command cfg).isSome)
  | .longDelay =>
    match r.command cfg with
    | some c => r.op.waits && longWaitClass c && (cfg.longWait == .delay)
    | none => false

/-- What holds between steps of every run from reset. -/
structure State.Inv (s : State) : Prop where
  /-- The parameters are admissible (rule R6). -/
  admissible : s.cfg.Admissible
  /-- The next step is the host's unless the schedule says otherwise (rules R215, R220, R230). -/
  normalContext : s.agent = .host
  /-- `TALLY` and the latch that copies it have `TALLY_WIDTH` bits (rules R12, R13). -/
  tallyWidth : s.tally < 2 ^ s.cfg.tallyWidth
  latchWidth : s.tL < 2 ^ s.cfg.tallyWidth
  /-- `MASK` is 1 exactly inside a critical section (rules R20, R21). -/
  maskInside : s.mask = s.seqTc.inside
  /-- One thread: a sample and a unit LD operation are never in flight together (rules R15, R16, R168). -/
  oneThread : s.seqTc = .idle ∨ s.seqLd = .idle
  /-- Before the first `TC.START` nothing counts, nothing is pending and no sample runs (rules R25, R104). -/
  stopped : s.run = false → s.ovie = false ∧ s.cnt = 0#16 ∧ s.ovf = false ∧ s.seqTc = .idle
  /-- After it the overflow interrupt is enabled (rules R21, R101). -/
  started : s.run = true → s.ovie = true
  /-- `SEQ_LD` names a place its operation has (rule R16). -/
  placed : ∀ r, s.seqLd = .active r → r.placed s.cfg = true
  /-- A busy wait has made fewer status reads than `POLL_LIMIT` (rule R167). -/
  pollsBelow : ∀ r limit, s.seqLd = .active r → s.cfg.pollLimit = some limit → r.polls < limit
  /-- `OUT` has exactly `FMT_CAP` bytes, and the string in it fits (rule R46). -/
  outSize : s.out.length = s.cfg.fmtCap
  outFits : s.outValid = true → s.outLen ≤ s.cfg.fmtCap
  /-- DDRAM is in canonical form. -/
  ddramWf : Memory.wf s.ctrl.ddram

/-! ### The ideal count (rules R105 to R107) -/

/-- `n` is what the timer and the tally together stand for: `(TALLY + OVF) * 65536 + CNT` (rule R105). -/
def IdealIs (s : State) (n : Nat) : Prop := n = (s.tally + s.ovf.toNat) * 65536 + s.cnt.toNat

/-- The ideal count after the next step: the number of counts since the last `TC.START` (rule R105). -/
def idealAfter (s : State) (n : Nat) : Nat :=
  match requested s with
  | some (_, .tcTick) => if s.run then n + 1 else n
  | some (_, .tcStart _) => 0
  | _ => n

/-- The next step takes the counter from 65535 to 0. -/
def wrapsNext (s : State) : Prop :=
  (∃ who, requested s = some (who, .tcTick)) ∧ s.run = true ∧ s.cnt = 0xFFFF#16

/-- The next step loses an overflow: a wrap that finds `OVF` already 1 (rule R232). -/
def losesOverflow (s : State) : Prop := wrapsNext s ∧ s.ovf = true

/-- The next step is the split-capture hazard: a wrap between S3 and S4 of a sample (rule R231). -/
def splitHazard (s : State) : Prop := wrapsNext s ∧ s.seqTc = .s4

/-- The next step asks for `TC.START`, the counter reset of rule R235. -/
def restartsNext (s : State) : Prop := ∃ who source, requested s = some (who, .tcStart source)

/-- The TickCount a sample in progress stands for once its latches are written (rule R103, S6 before its modulus). -/
def latchedCount (s : State) : Nat := (s.tL + s.pL.toNat) * 65536 + s.rL.toNat

/-- What the latches of the sample in progress say at ideal count `n`, when every earlier result was at most `last`. -/
def SampleWithin (s : State) (last n : Nat) : Prop :=
  match s.seqTc with
  | .idle => True
  | .s1 => True
  | .s2 => True
  | .s3 => s.tL = s.tally
  | .s34 => s.tL = s.tally
  | .s4 =>
    s.tL = s.tally ∧ last ≤ (s.tally + s.ovf.toNat) * 65536 + s.rL.toNat ∧ s.rL.toNat ≤ s.cnt.toNat
  | .s5 => last ≤ latchedCount s ∧ latchedCount s ≤ n
  | .s6 => last ≤ latchedCount s ∧ latchedCount s ≤ n

/-- The last TickCount returned after a step from `s` to `t`: the one this step returned, or the earlier one. -/
def lastSample (s t : State) (last : Nat) : Nat :=
  if s.seqTc = .s6 ∧ t.seqTc = .idle then
    match t.result with
    | some (.tickCount c) => c
    | _ => last
  else last

/-! ### The formatter's string -/

/-- The value of a digit character (rule R84). -/
def digitValue (b : Byte) : Nat := b.toNat - 0x30

/-- A string of digit characters read in base ten, most significant first. -/
def decimalValue (str : List Byte) : Nat := str.foldl (fun acc b => acc * 10 + digitValue b) 0

/-- A digit character (rule R84). -/
abbrev IsDigitChar (b : Byte) : Prop := 0x30 ≤ b.toNat ∧ b.toNat ≤ 0x39

/-! ### Bus traces -/

/-- The events of `SEND(cmd)` when no transfer fails (rules R142, R155): each byte of `SEQ(cmd)`, followed by a delay
where the command is spaced. -/
def sendEvents (cfg : Config) (c : Command) : List Event :=
  (busSequence cfg c).flatMap
    (fun b => .wrote cfg.lcdAddr b :: if spaced c then [.delay cfg.tPhaseUs] else [])

/-- The events of a status read that returns the bytes `v` and `w` (rule R144). -/
def statusEvents (cfg : Config) (v w : Byte) : List Event :=
  [.wrote cfg.lcdAddr (probeByte cfg .one), .wrote cfg.lcdAddr (probeByte cfg .two), .read cfg.lcdAddr v,
   .wrote cfg.lcdAddr (probeByte cfg .three),
   .wrote cfg.lcdAddr (probeByte cfg .one), .wrote cfg.lcdAddr (probeByte cfg .two), .read cfg.lcdAddr w,
   .wrote cfg.lcdAddr (probeByte cfg .three)]

/-- The events of `ISSUE(cmd)` when the first status read finds the controller not busy (rule R166). -/
def issueEvents (cfg : Config) (v : Byte) (c : Command) : List Event :=
  sendEvents cfg c ++
    if longWaitClass c = true ∧ cfg.longWait = .delay then [.delay cfg.tLongUs] else statusEvents cfg v v

/-- `i`, issued by the free host, runs through `ISSUE` of each command in order and returns `res`, when every transfer
succeeds and every status read answers `v`, which has BUSY = 0: one host step per event, nothing else scheduled (rules
R165, R166). What it leaves alone: the rest of the block. -/
def RunsCommands (i : Instr) (cmds : List Command) (res : Result) (s : State) (v : Byte) (rest : List Slot) : Prop :=
  ∃ t u, exec i s = .next t ∧
    steps (cmds.flatMap (issueEvents s.cfg v)).length
      (t.scheduled (cmds.flatMap (issueEvents s.cfg v)).length (.ok v) rest) = .next u ∧
    u.trace = s.trace ++ cmds.flatMap (issueEvents s.cfg v) ∧ u.result = some res ∧ u.seqLd = .idle ∧
    u.schedule = rest ∧ u.cfg = s.cfg ∧ u.agent = .host ∧ u.seqTc = s.seqTc ∧ u.cnt = s.cnt ∧ u.tally = s.tally ∧
    u.tL = s.tL ∧ u.rL = s.rL ∧ u.pL = s.pL ∧ u.ovf = s.ovf ∧ u.run = s.run ∧ u.clksel = s.clksel ∧ u.ovie = s.ovie ∧
    u.mask = s.mask ∧ u.out = s.out ∧ u.outLen = s.outLen ∧ u.outValid = s.outValid

/-! ### The display -/

/-- The controller is initialised, in step with the block and not busy, and Enable is low (rules R186, R188). -/
def InStep (s : State) : Prop :=
  s.ctrl.mode = .four ∧ s.ctrl.half = .upper ∧ s.ctrl.readHalf = .upper ∧ s.ctrl.busy = false ∧
    enableOf s.cfg s.lines = false

/-- The four control lines are at four different positions (rule R6). -/
abbrev DistinctLines (cfg : Config) : Prop := [cfg.posRs, cfg.posRw, cfg.posE, cfg.posAux].Nodup

end Sys2Proof.Machine
end

