-- ==== Sys2Proof/Certificates/Slice0/Obligations.lean ====
section
/-! DEFINITION. The statements for the provers, each from the numbered rules of spec/. -/

open Sys2Proof Sys2Proof.Machine

/-! ### Encoding -/

/-- Every well-formed instruction, encoded, decodes to itself, whatever bytes follow and under every parameter value:
no bit of an encoding is dropped (rules R66, R68 to R78, R87). The packing of operands after a selector is the model's
(log entry 6). -/
def Obligations.DecodeOfEncode : Prop :=
  ∀ (cfg : Config) (i : Instr) (rest : List Byte), WellFormed cfg i = true →
    decode cfg.fsLayout (encode cfg.fsLayout i).1 ((encode cfg.fsLayout i).2 ++ rest) = .ok i rest

/-- Words of the tables of rules R66 and R69 decode to the rows they stand for. The model's choice (log entry 6): a row's
word has zero bytes for the operands the table gives no bits, so that the bare selector 0x10 reads as `TC.START internal`,
and a command word is two bytes with the lower first. -/
def Obligations.TableWordsDecode : Prop :=
  decodeTableWord 8 0x11 = some .tcSample ∧ decodeTableWord 8 0x10 = some (.tcStart .internal) ∧
  decodeTableWord 8 0x1E = some .tcTick ∧ decodeTableWord 8 0x1F = some .tcOvf ∧
  decodeTableWord 8 0x30 = some .ldInit ∧ decodeTableWord 8 0x31 = some .ldClear ∧
  decodeTableWord 16 0x006 = some (.entryModeSet true false) ∧
  decodeTableWord 16 0x028 = some (.functionSet false true false) ∧
  decodeTableWord 16 0x0C0 = some (.setDDRAMAddress 0x40) ∧ decodeTableWord 16 0x141 = some (.writeData 0x41#8)

/-- A request with a selector that rule R66 does not list is refused, and is no step (rule R67). -/
def Obligations.ReservedSelectorsAreRefused : Prop :=
  ∀ (s : State) (who : Agent) (sel : Byte) (bytes : List Byte) (rest : List Slot),
    sel.toNat ∉ [0x10, 0x11, 0x1E, 0x1F, 0x20, 0x30, 0x31, 0x32, 0x33, 0x38, 0x39] →
    s.schedule = .request who .op (sel :: bytes) :: rest →
    step s = .refused (.undecodable (.reservedSelector sel))

/-- A command word classifies as a write command exactly when it is that command's own word, so no reserved word falls
to a neighbour (rules R68, R87). -/
def Obligations.ClassifyInvertsWord : Prop :=
  ∀ (lay : FsLayout) (w : CommandWord) (c : Command),
    classify lay w = some c ↔ (c.word lay = w ∧ ∀ a, c = .setDDRAMAddress a → a < 128)

/-- The instruction payloads the block never emits, with the default layout: the list of rule R88. -/
def Obligations.NeverEmittedPayloads : Prop :=
  ∀ p : Byte, classify .hitachi (0b00#2 ++ p) = none ↔
    (p.toNat = 0x00 ∨ p.toNat = 0x03 ∨ (0x10 ≤ p.toNat ∧ p.toNat ≤ 0x1F ∧ p.toNat % 4 ≠ 0) ∨
      (0x20 ≤ p.toNat ∧ p.toNat ≤ 0x3F ∧ p.toNat % 4 ≠ 0) ∨ (0x40 ≤ p.toNat ∧ p.toNat ≤ 0x7F))

/-- The round-trip property of rule R91: decoding the bytes a command writes recovers RS, R/W and the payload, for every
variant, every field and every admissible placing and polarity of the lines. -/
def Obligations.BusRoundTrip : Prop :=
  ∀ (cfg : Config) (c : Command), DistinctLines cfg →
    decodeBus cfg (busSequence cfg c) = some (c.rs, false, c.payload cfg.fsLayout)

/-- Six bytes for a write command, nine for FunctionSet (rule R90). -/
def Obligations.CommandLengths : Prop :=
  ∀ (cfg : Config) (c : Command),
    (busSequence cfg c).length = match c with | .functionSet _ _ _ => 9 | _ => 6

/-- The three bytes of a nibble group carry the nibble and differ in bit `POS_E` only, low, high, low (rules R81, R82). -/
def Obligations.NibbleGroupShape : Prop :=
  ∀ (cfg : Config) (nib : Nibble) (rs rw : Bool), DistinctLines cfg →
    (∀ e, nibbleOf (pack cfg nib rs rw e) = nib ∧ enableOf cfg (pack cfg nib rs rw e) = e ∧
      rsOf cfg (pack cfg nib rs rw e) = rs ∧ rwOf cfg (pack cfg nib rs rw e) = rw ∧
      (pack cfg nib rs rw e).getLsbD cfg.posAux.val = cfg.auxLevel) ∧
    pack cfg nib rs rw true = pack cfg nib rs rw false ||| (1#8 <<< cfg.posE.val) ∧
    nibbleGroup cfg nib rs rw = [pack cfg nib rs rw false, pack cfg nib rs rw true, pack cfg nib rs rw false]

/-! ### Unit TC -/

/-- `TC.START` in normal context with nothing in flight: the whole next state (rules R25, R101). The model's choice (log
entry 25): the latches, which hold no value then, keep what they held. -/
def Obligations.StartResetsTheTimer : Prop :=
  ∀ (s : State) (src : ClockSource), HostFree s →
    exec (.tcStart src) s = .next { s with
      mask := false, clksel := src, cnt := 0#16, ovf := false, tally := 0, ovie := true, run := true, result := some .ok }

/-- `TC.TICK`: one count modulo 65536, `OVF` set on the wrap; with `RUN = 0` nothing changes (rule R100). -/
def Obligations.TickCounts : Prop :=
  ∀ s : State, s.agent = .tickSource →
    (s.run = true → exec .tcTick s = .next { s with
      cnt := BitVec.ofNat 16 ((s.cnt.toNat + 1) % 65536), ovf := if s.cnt.toNat = 65535 then true else s.ovf }) ∧
    (s.run = false → exec .tcTick s = .next s)

/-- A wrap that finds `OVF` already 1 leaves it 1 and is counted nowhere (rule R232): what the timer and the tally stand
for falls 65536 short. -/
def Obligations.SecondWrapIsLost : Prop :=
  ∀ (s : State) (n : Nat), s.agent = .tickSource → s.run = true → s.cnt = 0xFFFF#16 → s.ovf = true → IdealIs s n →
    ∃ t, exec .tcTick s = .next t ∧ t.ovf = true ∧ t.tally = s.tally ∧ t.cnt = 0#16 ∧ 65536 ≤ n + 1 ∧
      IdealIs t (n + 1 - 65536)

/-- `TC.OVF` takes the interrupt exactly where rule R20 enables it: one more in the tally modulo `2^TALLY_WIDTH`, the
pending flag cleared, `MASK` 0 (rules R20, R102). -/
def Obligations.HandlerStep : Prop :=
  ∀ s : State, s.agent = .handler →
    (s.ovf = true ∧ s.ovie = true ∧ s.mask = false →
      exec .tcOvf s = .next { s with tally := (s.tally + 1) % 2 ^ s.cfg.tallyWidth, ovf := false }) ∧
    (¬ (s.ovf = true ∧ s.ovie = true ∧ s.mask = false) → exec .tcOvf s = .next s)

/-- Entry and return: a whole step of the machine that takes the interrupt leaves every place and latch of the host as it
was; only the tally and `OVF` change, and the host is next (rules R102, R214, R215). -/
def Obligations.InterruptIsTransparent : Prop :=
  ∀ (s : State) (bytes : List Byte) (rest : List Slot),
    s.schedule = .request .handler .op (0x1F#8 :: bytes) :: rest →
    s.ovf = true → s.ovie = true → s.mask = false →
    step s = .next { s with
      tally := (s.tally + 1) % 2 ^ s.cfg.tallyWidth, ovf := false, schedule := rest, agent := .host }

/-- `TC.SAMPLE` is refused before the first `TC.START`, outside normal context, and with an operation in flight. Rule R104
refuses it for `RUN = 0`, in interrupt context and during another sample. The model's choice (log entry 16, from rules
R168 and R204): it is refused to the tick source too, and while a unit LD operation is in flight. -/
def Obligations.SampleAdmission : Prop :=
  ∀ s : State,
    (HostFree s → s.run = false → exec .tcSample s = .refused .notStarted) ∧
    (s.agent ≠ .host → exec .tcSample s = .refused .wrongContext) ∧
    (s.agent = .host → ¬ (s.seqTc = .idle ∧ s.seqLd = .idle) → exec .tcSample s = .refused .operationInFlight)

/-- `TC.SAMPLE` with nothing else stepping, `CAPTURE = SPLIT`: issued, then six host steps S1 to S6, then the TickCount;
nothing but the latches changes (rule R103). The model's choice (log entry 25): the latches keep their values after S6. -/
def Obligations.SampleReturnsTheCount : Prop :=
  ∀ (s : State) (ans : Answer) (rest : List Slot), HostFree s → s.run = true → s.cfg.capture = .split →
    ∃ t, exec .tcSample s = .next t ∧ t.seqTc = .s1 ∧
      steps 6 (t.scheduled 6 ans rest) = .next { s with
        mask := false, tL := s.tally, rL := s.cnt, pL := s.ovf, schedule := rest
        result := some (.tickCount (((s.tally + s.ovf.toNat) * 65536 + s.cnt.toNat) % 2 ^ (s.cfg.tallyWidth + 16))) }

/-- The same with `CAPTURE = ATOMIC`: S3 and S4 are one step, so five host steps (rule R103; the latches after S6: log
entry 25). -/
def Obligations.AtomicSampleReturnsTheCount : Prop :=
  ∀ (s : State) (ans : Answer) (rest : List Slot), HostFree s → s.run = true → s.cfg.capture = .atomic →
    ∃ t, exec .tcSample s = .next t ∧ t.seqTc = .s1 ∧
      steps 5 (t.scheduled 5 ans rest) = .next { s with
        mask := false, tL := s.tally, rL := s.cnt, pL := s.ovf, schedule := rest
        result := some (.tickCount (((s.tally + s.ovf.toNat) * 65536 + s.cnt.toNat) % 2 ^ (s.cfg.tallyWidth + 16))) }

/-- Each micro-step by itself: what it writes and which comes next; nothing else changes (rules R15, R103). -/
def Obligations.SampleMicroSteps : Prop :=
  ∀ (s : State) (ans : Answer),
    (s.seqTc = .s1 → hostStep ans s = .next { s with mask := true, seqTc := .s2 }) ∧
    (s.seqTc = .s2 → hostStep ans s = .next { s with
      tL := s.tally, seqTc := match s.cfg.capture with | .split => .s3 | .atomic => .s34 }) ∧
    (s.seqTc = .s3 → hostStep ans s = .next { s with rL := s.cnt, seqTc := .s4 }) ∧
    (s.seqTc = .s4 → hostStep ans s = .next { s with pL := s.ovf, seqTc := .s5 }) ∧
    (s.seqTc = .s34 → hostStep ans s = .next { s with rL := s.cnt, pL := s.ovf, seqTc := .s5 }) ∧
    (s.seqTc = .s5 → hostStep ans s = .next { s with mask := false, seqTc := .s6 }) ∧
    (s.seqTc = .s6 → hostStep ans s = .next { s with
      seqTc := .idle
      result := some (.tickCount (((s.tL + s.pL.toNat) * 65536 + s.rL.toNat) % 2 ^ (s.cfg.tallyWidth + 16))) })

/-- The split-capture hazard (rules R106, R231): a wrap between S3 and S4 makes the sample return 65536 more than the
count at its register read, which is `TALLY * 65536 + 65535`. -/
def Obligations.SplitCaptureHazard : Prop :=
  ∀ (s : State) (ans : Answer) (rest : List Slot),
    HostFree s → s.run = true → s.cfg.capture = .split → s.cnt = 0xFFFF#16 → s.ovf = false →
    ∃ t u, exec .tcSample s = .next t ∧
      steps 7 { t with
        schedule := .proceed ans :: .proceed ans :: .proceed ans :: request .tickSource 0x1E#8 ::
          .proceed ans :: .proceed ans :: .proceed ans :: rest } = .next u ∧
      u.result = some (.tickCount (((s.tally + 1) * 65536 + 65535) % 2 ^ (s.cfg.tallyWidth + 16))) ∧
      u.cnt = 0#16 ∧ u.ovf = true ∧ u.tally = s.tally ∧ u.mask = false ∧ u.seqTc = .idle

/-- The invariant of rule R105 over every step: while no overflow is lost and the count fits `TICK_WIDTH`,
`(TALLY + OVF) * 65536 + CNT` is the number of counts since the last `TC.START`. -/
def Obligations.IdealCountInvariant : Prop :=
  ∀ (s t : State) (n : Nat), step s = .next t → IdealIs s n → ¬ losesOverflow s →
    idealAfter s n < 2 ^ s.cfg.tickWidth → IdealIs t (idealAfter s n)

/-- Monotonicity (rules R106, R107) as an invariant of every step: with no restart, no lost overflow, no wrap between S3
and S4 and a count that fits, every TickCount returned is at least the one before and at most the ideal count. The
premise "no wrap between S3 and S4" is met by every step under `CAPTURE = ATOMIC`. -/
def Obligations.SamplesAreMonotone : Prop :=
  ∀ (s t : State) (last n : Nat), s.Inv → step s = .next t → IdealIs s n → last ≤ n → SampleWithin s last n →
    ¬ losesOverflow s → ¬ splitHazard s → ¬ restartsNext s → idealAfter s n < 2 ^ s.cfg.tickWidth →
    last ≤ lastSample s t last ∧ lastSample s t last ≤ idealAfter s n ∧
      SampleWithin t (lastSample s t last) (idealAfter s n)

/-- No step writes the tally while a sample is inside its critical section: the handler is excluded, and `TC.START` is
not admitted (rules R55, R61, R62, R63). -/
def Obligations.CriticalSectionExcludesHandler : Prop :=
  ∀ s t : State, s.Inv → s.seqTc.inside = true → step s = .next t → t.tally = s.tally ∧ (s.ovf = true → t.ovf = true)

/-- Who writes the timer's state, over all steps (rules R11, R12, R18, R21): `CNT` only `TC.TICK` and `TC.START`; the
tally only `TC.OVF` and `TC.START`; `OVF` is set only by `TC.TICK` and cleared only by `TC.OVF` and `TC.START`; `CLKSEL`
only `TC.START`; nothing clears `RUN` or `OVIE`. -/
def Obligations.TimerStateWriters : Prop :=
  ∀ s t : State, step s = .next t →
    (t.cnt ≠ s.cnt → requested s = some (.tickSource, .tcTick) ∨ ∃ src, requested s = some (.host, .tcStart src)) ∧
    (t.tally ≠ s.tally → requested s = some (.handler, .tcOvf) ∨ ∃ src, requested s = some (.host, .tcStart src)) ∧
    (s.ovf = false → t.ovf = true → requested s = some (.tickSource, .tcTick)) ∧
    (s.ovf = true → t.ovf = false →
      requested s = some (.handler, .tcOvf) ∨ ∃ src, requested s = some (.host, .tcStart src)) ∧
    (t.clksel ≠ s.clksel → ∃ src, requested s = some (.host, .tcStart src)) ∧
    (s.run = true → t.run = true) ∧ (s.ovie = true → t.ovie = true)

/-! ### Unit FMT -/

/-- `FMT.FORMAT` on a value that fits its digits and its buffer: the whole next state (rule R125). The string is the
model's function of V, N and M; `FormattedStringIsTheValue` says what it is. -/
def Obligations.FormatWritesTheString : Prop :=
  ∀ (s : State) (v n m : Nat), HostFree s → v < 2 ^ s.cfg.fmtWidth → v < 10 ^ (n + m) →
    formattedLength v n m ≤ s.cfg.fmtCap →
    exec (.fmtFormat v n m) s = .next { s with
      out := formattedString v n m ++ s.out.drop (formattedString v n m).length
      outLen := formattedLength v n m, outValid := true, result := some .ok }

/-- What the string is, for every value that fits N and M digits (rules R84, R125 to R129, R131): integer digits, the point,
exactly M fractional digits; read without the point it is V; it has at least the ones digit and no leading zero beyond
it; its length is `s + 1 + M`. -/
def Obligations.FormattedStringIsTheValue : Prop :=
  ∀ v n m : Nat, v < 10 ^ (n + m) →
    ∃ ip fp : List Byte, formattedString v n m = ip ++ 0x2E#8 :: fp ∧ fp.length = m ∧ 1 ≤ ip.length ∧
      formattedLength v n m = ip.length + 1 + m ∧ (∀ b ∈ ip ++ fp, IsDigitChar b) ∧
      decimalValue (ip ++ fp) = v ∧ (1 < ip.length → ip.head? ≠ some 0x30#8) ∧ (n ≤ 1 → ip.length = 1) ∧
      (1 ≤ n → ip.length ≤ n)

/-- The errors and their order (rules R130, R205): range first, then capacity; on either nothing is written and the
string holds no value. -/
def Obligations.FormatErrors : Prop :=
  ∀ (s : State) (v n m : Nat), HostFree s → v < 2 ^ s.cfg.fmtWidth →
    (10 ^ (n + m) ≤ v →
      exec (.fmtFormat v n m) s = .next { s with outValid := false, result := some (.error .fmtRange) }) ∧
    (v < 10 ^ (n + m) → s.cfg.fmtCap < formattedLength v n m →
      exec (.fmtFormat v n m) s = .next { s with
        outValid := false, result := some (.error (.fmtCapacity (formattedLength v n m))) })

/-- The three results the document states, and the digits rule R134 gives for the third. -/
def Obligations.FormatExamples : Prop :=
  formattedString 0 2 3 = [0x30#8, 0x2E#8, 0x30#8, 0x30#8, 0x30#8] ∧
  formattedString 12500 2 3 = [0x31#8, 0x32#8, 0x2E#8, 0x35#8, 0x30#8, 0x30#8] ∧
  formattedString 40 2 3 = [0x30#8, 0x2E#8, 0x30#8, 0x34#8, 0x30#8] ∧
  integerDigit 40 3 1 = 0 ∧ integerDigit 40 3 0 = 0 ∧ significantDigits 40 2 3 = 1 ∧
  fractionalDigit 40 3 1 = 0 ∧ fractionalDigit 40 3 2 = 4 ∧ fractionalDigit 40 3 3 = 0

/-- The formatter's result is a function of V, N, M and `FMT_CAP` alone (rule R133): two states that agree on `FMT_CAP`
return the same result and the same characters. -/
def Obligations.FormatDependsOnOperandsAlone : Prop :=
  ∀ (s t s' t' : State) (v n m : Nat), s.cfg.fmtCap = t.cfg.fmtCap → exec (.fmtFormat v n m) s = .next s' →
    exec (.fmtFormat v n m) t = .next t' →
    s'.result = t'.result ∧ s'.outValid = t'.outValid ∧ ∀ i, outChar s' i = outChar t' i

/-! ### Unit LD: issuing -/

/-- `LD.INIT` runs the six commands of rule R170 in their order with the fields of the parameters. -/
def Obligations.InitRunsSixCommands : Prop :=
  ∀ (s : State) (v : Byte) (rest : List Slot), HostFree s → s.cfg.readPath = .bareOracle → v.getLsbD 7 = false →
    RunsCommands .ldInit
      [.functionSet s.cfg.initFs.1 s.cfg.initFs.2.1 s.cfg.initFs.2.2, .clearDisplay,
       .displayControls s.cfg.initDc.1 s.cfg.initDc.2.1 s.cfg.initDc.2.2,
       .entryModeSet s.cfg.initEm.1 s.cfg.initEm.2, .returnHome, .setDDRAMAddress 0]
      .ok s v rest

/-- `LD.CLEAR` is one ClearDisplay and its wait (rule R171). -/
def Obligations.ClearRunsOneCommand : Prop :=
  ∀ (s : State) (v : Byte) (rest : List Slot), HostFree s → s.cfg.readPath = .bareOracle → v.getLsbD 7 = false →
    RunsCommands .ldClear [.clearDisplay] .ok s v rest

/-- `LD.MOVE` on a position of the grid sends its DDRAM address (rule R172). -/
def Obligations.MoveSendsTheAddress : Prop :=
  ∀ (s : State) (v p : Byte) (rest : List Slot), HostFree s → s.cfg.readPath = .bareOracle → v.getLsbD 7 = false →
    (p.toNat ≤ 15 → RunsCommands (.ldMove p) [.setDDRAMAddress p.toNat] .ok s v rest) ∧
    (16 ≤ p.toNat → p.toNat ≤ 31 → RunsCommands (.ldMove p) [.setDDRAMAddress (0x40 + (p.toNat - 16))] .ok s v rest)

/-- `LD.MOVE` outside the grid makes no transfer: `Ok`, or `PositionRange` with `STRICT_RANGE` (rule R172). -/
def Obligations.MoveOutsideTheGrid : Prop :=
  ∀ (s : State) (p : Byte), HostFree s → 32 ≤ p.toNat →
    (s.cfg.strictRange = false → exec (.ldMove p) s = .next { s with result := some .ok }) ∧
    (s.cfg.strictRange = true →
      exec (.ldMove p) s = .next { s with result := some (.error (.positionRange p)) })

/-- `LD.WRITE` sends one WriteData for each byte below `LINE_CAP`, index 0 first, and returns whether it cut the text;
an empty text makes no transfer (rule R173). -/
def Obligations.WriteSendsEachByte : Prop :=
  ∀ (s : State) (v : Byte) (text : List Byte) (rest : List Slot),
    HostFree s → s.cfg.readPath = .bareOracle → v.getLsbD 7 = false →
    RunsCommands (.ldWrite text) ((text.take s.cfg.lineCap).map .writeData)
      (.written (decide (s.cfg.lineCap < text.length))) s v rest

/-! ### Unit LD: commands -/

/-- Each of the eight write commands, by its own row or by `LD.CMD` with its word, is issued and runs `SEND` of itself:
when no transfer fails the trace gains `SEQ(cmd)` byte by byte, with a delay after each phase of a FunctionSet, and `Ok`
is returned; one host step per event (rules R142, R143, R145 to R152, R155). -/
def Obligations.SendWritesTheSequence : Prop :=
  ∀ (s : State) (c : Command) (i : Instr) (v : Byte) (rest : List Slot), HostFree s →
    (i = Instr.ofCommand c ∨ i = .ldCmd (c.word s.cfg.fsLayout) ∧ ∀ a, c = .setDDRAMAddress a → a < 128) →
    ∃ t u, exec i s = .next t ∧ t.seqLd = .active (LdRun.start (.cmd c)) ∧
      steps (sendEvents s.cfg c).length (t.scheduled (sendEvents s.cfg c).length (.ok v) rest) = .next u ∧
      u.trace = s.trace ++ sendEvents s.cfg c ∧ u.result = some .ok ∧ u.seqLd = .idle ∧ u.schedule = rest ∧
      u.cfg = s.cfg ∧ u.agent = .host ∧ u.seqTc = s.seqTc ∧ u.cnt = s.cnt ∧ u.tally = s.tally ∧ u.ovf = s.ovf ∧
      u.tL = s.tL ∧ u.rL = s.rL ∧ u.pL = s.pL ∧
      u.run = s.run ∧ u.clksel = s.clksel ∧ u.ovie = s.ovie ∧ u.mask = s.mask ∧ u.b1 = s.b1 ∧ u.b2 = s.b2 ∧
      u.out = s.out ∧ u.outLen = s.outLen ∧ u.outValid = s.outValid ∧
      u.lines = pack s.cfg (lowerNibble (c.payload s.cfg.fsLayout)) c.rs false false

/-- The SEQ bytes rules R145 to R152 print, with the default parameters. -/
def Obligations.CommandExamples : Prop :=
  busSequence Config.default .clearDisplay = [0x00, 0x04, 0x00, 0x10, 0x14, 0x10] ∧
  busSequence Config.default .returnHome = [0x00, 0x04, 0x00, 0x20, 0x24, 0x20] ∧
  busSequence Config.default (.entryModeSet true false) = [0x00, 0x04, 0x00, 0x60, 0x64, 0x60] ∧
  busSequence Config.default (.displayControls true false false) = [0x00, 0x04, 0x00, 0xC0, 0xC4, 0xC0] ∧
  busSequence Config.default (.cursorDisplayShift true true) = [0x10, 0x14, 0x10, 0xC0, 0xC4, 0xC0] ∧
  busSequence Config.default (.functionSet false true false) =
    [0x20, 0x24, 0x20, 0x20, 0x24, 0x20, 0x80, 0x84, 0x80] ∧
  busSequence Config.default (.setDDRAMAddress 0x40) = [0xC0, 0xC4, 0xC0, 0x00, 0x04, 0x00] ∧
  busSequence Config.default (.writeData 0x41#8) = [0x41, 0x45, 0x41, 0x11, 0x15, 0x11]

/-- `LD.CMD` with a word that is none of the eight write commands is refused: the block has no constructor for it (rule
R88). -/
def Obligations.UnknownWordsAreRefused : Prop :=
  ∀ (s : State) (w : CommandWord), HostFree s → (∀ c : Command, c.word s.cfg.fsLayout ≠ w) →
    exec (.ldCmd w) s = .refused (.notACommand w)

/-- The status read, by either of its rows: eight host steps, six probe writes and two reads in the order of rule R144,
and BUSY and AC from the upper halves of the two bytes read (rules R79, R144, R153). On the bare oracle's path (rule
R42) the bytes are the oracle's answers. The model's choice (log entry 25): `B1` and `B2` keep the bytes afterwards. -/
def Obligations.StatusReadReturnsBusyAndAc : Prop :=
  ∀ (s : State) (i : Instr) (v w x : Byte) (rest : List Slot), HostFree s →
    (i = .ldStatus ∨ ∃ u, i = .statusRead u) → s.cfg.readPath = .bareOracle →
    ∃ t u, exec i s = .next t ∧ t.seqLd = .active (LdRun.start .status) ∧
      steps 8 { t with
        schedule := [.proceed (.ok x), .proceed (.ok x), .proceed (.ok v), .proceed (.ok x), .proceed (.ok x),
          .proceed (.ok x), .proceed (.ok w), .proceed (.ok x)] ++ rest } = .next u ∧
      u.trace = s.trace ++ statusEvents s.cfg v w ∧ u.b1 = v ∧ u.b2 = w ∧
      u.result = some (.status (v.getLsbD 7) (v.extractLsb' 4 3 ++ w.extractLsb' 4 4)) ∧ u.seqLd = .idle ∧
      u.schedule = rest ∧ u.cfg = s.cfg ∧ u.agent = .host ∧ u.seqTc = s.seqTc ∧ u.cnt = s.cnt ∧ u.tally = s.tally ∧
      u.tL = s.tL ∧ u.rL = s.rL ∧ u.pL = s.pL ∧ u.ovf = s.ovf ∧ u.run = s.run ∧ u.clksel = s.clksel ∧ u.ovie = s.ovie ∧
      u.mask = s.mask ∧ u.out = s.out ∧ u.outLen = s.outLen ∧ u.outValid = s.outValid

/-! ### Unit LD: waits and errors -/

/-- The busy wait (rule R167): after `LD.CLEAR` has sent its six bytes, each status read that answers BUSY = 1 is
followed by another, without end where `POLL_LIMIT` is none (rule R236) and while fewer than `POLL_LIMIT` were made
otherwise; the operation is still in flight after `k` of them, having counted them. -/
def Obligations.BusyWaitRepeats : Prop :=
  ∀ (s : State) (v : Byte) (k : Nat) (rest : List Slot), HostFree s → s.cfg.readPath = .bareOracle →
    v.getLsbD 7 = true → s.cfg.longWait = .poll → (∀ limit, s.cfg.pollLimit = some limit → k < limit) →
    ∃ t u r, exec .ldClear s = .next t ∧ steps (6 + 8 * k) (t.scheduled (6 + 8 * k) (.ok v) rest) = .next u ∧
      u.seqLd = .active r ∧ r.op = .clear ∧ r.place = .probe .upper .one ∧ r.polls = k ∧
      r.transfers = 6 + 8 * k ∧ u.result = none ∧
      u.trace = s.trace ++ sendEvents s.cfg .clearDisplay ++
        (List.replicate k (statusEvents s.cfg v v)).flatten

/-- A busy wait that is answered BUSY = 0 after `k` busy answers returns `Ok` (rule R167), and the controller has then
completed the command (rule R62). -/
def Obligations.BusyWaitEnds : Prop :=
  ∀ (s : State) (v w : Byte) (k : Nat) (rest : List Slot), HostFree s → s.cfg.readPath = .bareOracle →
    v.getLsbD 7 = true → w.getLsbD 7 = false → s.cfg.longWait = .poll →
    (∀ limit, s.cfg.pollLimit = some limit → k < limit) →
    ∃ t u, exec .ldClear s = .next t ∧
      steps (6 + 8 * k + 8)
        (t.scheduled (6 + 8 * k) (.ok v) (List.replicate 8 (.proceed (.ok w)) ++ rest)) = .next u ∧
      u.seqLd = .idle ∧ u.result = some .ok ∧ u.schedule = rest ∧ u.ctrl.busy = false ∧
      u.trace = s.trace ++ sendEvents s.cfg .clearDisplay ++
        (List.replicate k (statusEvents s.cfg v v)).flatten ++ statusEvents s.cfg w w

/-- With a finite `POLL_LIMIT` that many busy answers raise `BusyTimeout` (rules R167, R201). -/
def Obligations.BusyWaitTimesOut : Prop :=
  ∀ (s : State) (v : Byte) (limit : Nat) (rest : List Slot), HostFree s → s.cfg.readPath = .bareOracle →
    v.getLsbD 7 = true → s.cfg.longWait = .poll → s.cfg.pollLimit = some limit → 1 ≤ limit →
    ∃ t u, exec .ldClear s = .next t ∧
      steps (6 + 8 * limit) (t.scheduled (6 + 8 * limit) (.ok v) rest) = .next u ∧
      u.seqLd = .idle ∧ u.result = some (.error .busyTimeout) ∧ u.schedule = rest

/-- A failed transfer (rules R141, R144, R154, R200, R201, R203): whatever operation is in flight and wherever in it the
transfer stands, it is the operation's last event, with the byte of its place where it is a write, `SEQ_LD` is idle, and
the caller has `BusError` with the kind of the transfer and the number completed before it. After a failed write the
lines are as the oracle says (rule R41). The model's choice (log entry 22): a failed read leaves them and
the controller as they were. -/
def Obligations.BusFailureAborts : Prop :=
  ∀ (s : State) (r : LdRun) (l : Byte), s.seqTc = .idle → s.seqLd = .active r → r.placed s.cfg = true →
    (∀ g ph, r.place ≠ .gap g ph) → r.place ≠ .longDelay →
    ∃ t, hostStep (.fail l) s = .next t ∧ t.seqLd = .idle ∧
      (match r.place with
       | .phase g ph =>
         ∃ c nib, r.nibble s.cfg g = some (c, nib) ∧
           t.trace = s.trace ++ [.writeFailed s.cfg.lcdAddr (pack s.cfg nib c.rs false ph.enable)] ∧ t.lines = l ∧
           t.result = some (.error (.busError .write r.transfers))
       | .probe _ ph =>
         t.trace = s.trace ++ [.writeFailed s.cfg.lcdAddr (probeByte s.cfg ph)] ∧ t.lines = l ∧
           t.result = some (.error (.busError .write r.transfers))
       | .read _ =>
         t.trace = s.trace ++ [.readFailed s.cfg.lcdAddr] ∧ t.lines = s.lines ∧ t.ctrl = s.ctrl ∧
           t.result = some (.error (.busError .read r.transfers))
       | .gap _ _ => False
       | .longDelay => False) ∧
      t.b1 = s.b1 ∧ t.b2 = s.b2 ∧ t.out = s.out ∧ t.outLen = s.outLen ∧ t.outValid = s.outValid ∧ t.cfg = s.cfg ∧
      t.seqTc = s.seqTc ∧ t.cnt = s.cnt ∧ t.tally = s.tally ∧ t.tL = s.tL ∧ t.rL = s.rL ∧ t.pL = s.pL ∧ t.ovf = s.ovf ∧
      t.run = s.run ∧ t.clksel = s.clksel ∧ t.ovie = s.ovie ∧ t.mask = s.mask ∧ t.agent = s.agent ∧
      t.schedule = s.schedule

/-- A delay is an event and touches nothing else: the lines, the controller, the latches and unit TC keep their values
(rule R240). -/
def Obligations.DelayTouchesNothing : Prop :=
  ∀ (s t : State) (r : LdRun) (ans : Answer), s.seqTc = .idle → s.seqLd = .active r →
    ((∃ g ph, r.place = .gap g ph) ∨ r.place = .longDelay) → hostStep ans s = .next t →
    t.trace = s.trace ++ [.delay (if r.place = .longDelay then s.cfg.tLongUs else s.cfg.tPhaseUs)] ∧
      t = { s with seqLd := t.seqLd, result := t.result, trace := t.trace }

/-- Bus discipline over every step (rules R43, R57, R241): a step adds at most one event, a transfer names `LCD_ADDR`,
and no event is ever taken back. -/
def Obligations.OneBusEventPerStep : Prop :=
  ∀ s t : State, step s = .next t →
    t.trace = s.trace ∨ ∃ e, t.trace = s.trace ++ [e] ∧
      ((∃ b, e = .wrote s.cfg.lcdAddr b) ∨ (∃ b, e = .read s.cfg.lcdAddr b) ∨ (∃ b, e = .writeFailed s.cfg.lcdAddr b) ∨
        e = .readFailed s.cfg.lcdAddr ∨ ∃ us, e = .delay us)

/-- While an operation is in flight the host can issue nothing: every request of its own is refused. The spec refuses an
operation of the same unit (rule R204), another sample and a `TC.START` during a sample (rules R101, R104), and says that
the host issues nothing during a unit LD operation (rule R168). The model's choice (log entry 16): the one host thread
(rule R15) issues nothing of any unit during a sample either. -/
def Obligations.NothingIssuedInFlight : Prop :=
  ∀ (s : State) (i : Instr), s.agent = .host → ¬ (s.seqTc = .idle ∧ s.seqLd = .idle) → i ≠ .tcTick → i ≠ .tcOvf →
    exec i s = .refused .operationInFlight

/-- Each request belongs to one agent. The host cannot issue the two events (rule R66), and the handler performs `TC.OVF`
alone (rules R220, R226). The model's choice (log entry 16): the tick source is refused everything but `TC.TICK`. -/
def Obligations.RequestsBelongToOneAgent : Prop :=
  ∀ (s : State) (i : Instr),
    (i = .tcTick → s.agent ≠ .tickSource → exec i s = .refused .wrongContext) ∧
    (i = .tcOvf → s.agent ≠ .handler → exec i s = .refused .wrongContext) ∧
    (i ≠ .tcTick → i ≠ .tcOvf → s.agent ≠ .host → exec i s = .refused .wrongContext)

/-! ### The peers -/

/-- Commands at a controller that is in step (rules R190 to R194, R197): a whole `SEND` of a command other than
FunctionSet, no transfer failing, leaves the controller in step and busy, with the command's effect and everything else
of it but the nibble latch `UP` as it was. ClearDisplay: every DDRAM cell reads blank and the address counter is 0.
WriteData: one cell stored, the counter one on inside a visible row when it counts up. -/
def Obligations.CommandsAtTheController : Prop :=
  ∀ (s : State) (c : Command) (v : Byte) (rest : List Slot), HostFree s → DistinctLines s.cfg → InStep s →
    Memory.wf s.ctrl.ddram → repeatUpper c = false →
    ∃ t u, exec (Instr.ofCommand c) s = .next t ∧ steps 6 (t.scheduled 6 (.ok v) rest) = .next u ∧
      enableOf u.cfg u.lines = false ∧
      match c with
      | .clearDisplay =>
        u.ctrl = { s.ctrl with ac := 0#7, ddram := u.ctrl.ddram, busy := true, up := u.ctrl.up } ∧
          ∀ a, Memory.read u.ctrl.ddram a = 0x20#8
      | .returnHome => u.ctrl = { s.ctrl with ac := 0#7, busy := true, up := u.ctrl.up }
      | .entryModeSet i d =>
        u.ctrl = { s.ctrl with incrementCursor := i, shiftDisplay := d, busy := true, up := u.ctrl.up }
      | .displayControls d k b =>
        u.ctrl = { s.ctrl with displayOn := d, cursorOn := k, cursorBlink := b, busy := true, up := u.ctrl.up }
      | .cursorDisplayShift sc rl =>
        u.ctrl = { s.ctrl with displayShift := sc, direction := rl, busy := true, up := u.ctrl.up }
      | .functionSet _ _ _ => True
      | .setDDRAMAddress a => u.ctrl = { s.ctrl with ac := BitVec.ofNat 7 a, busy := true, up := u.ctrl.up }
      | .writeData b =>
        u.ctrl = { s.ctrl with ac := u.ctrl.ac, ddram := u.ctrl.ddram, busy := true, up := u.ctrl.up } ∧
          Memory.read u.ctrl.ddram s.ctrl.ac.toNat = b ∧
          (∀ a, a ≠ s.ctrl.ac.toNat → Memory.read u.ctrl.ddram a = Memory.read s.ctrl.ddram a) ∧
          (s.ctrl.incrementCursor = true →
            (s.ctrl.ac.toNat < 0x0F ∨ (0x40 ≤ s.ctrl.ac.toNat ∧ s.ctrl.ac.toNat < 0x4F)) →
            u.ctrl.ac = s.ctrl.ac + 1#7)

/-- The handshake (rules R143, R187, R197): a FunctionSet with `eight_bit_mode = false` takes a controller from the 8-bit
state to the two-nibble protocol and sets its mode bits. -/
def Obligations.FunctionSetHandshake : Prop :=
  ∀ (s : State) (n f : Bool) (v : Byte) (rest : List Slot), HostFree s → DistinctLines s.cfg →
    s.ctrl.mode = .eight → s.ctrl.busy = false → enableOf s.cfg s.lines = false →
    ∃ t u, exec (.functionSet false n f) s = .next t ∧ steps 18 (t.scheduled 18 (.ok v) rest) = .next u ∧
      u.ctrl.mode = .four ∧ u.ctrl.half = .upper ∧ u.ctrl.eightBitMode = false ∧ u.ctrl.twoLineMode = n ∧
      u.ctrl.bigFonts = f ∧ u.ctrl.ac = s.ctrl.ac ∧ u.ctrl.ddram = s.ctrl.ddram

/-- The status read in the reference environment (rules R185, R188, R189): from an initialised controller about to show
the first half of its status byte, busy or not, the operation returns the BUSY the oracle answers as bit 7 of `v` and the
controller's address counter, and every element of the controller is as before (rule R56). -/
def Obligations.StatusReadShowsTheController : Prop :=
  ∀ (s : State) (v : Byte) (rest : List Slot), HostFree s → DistinctLines s.cfg →
    s.cfg.readPath = .referenceEnvironment → s.ctrl.mode = .four → s.ctrl.readHalf = .upper →
    enableOf s.cfg s.lines = false →
    ∃ t u, exec .ldStatus s = .next t ∧ steps 8 (t.scheduled 8 (.ok v) rest) = .next u ∧
      u.result = some (.status (v.getLsbD 7) s.ctrl.ac) ∧ u.seqLd = .idle ∧
      u.ctrl = s.ctrl ∧ enableOf u.cfg u.lines = false ∧ u.schedule = rest

/-- Idempotence of `clear()` (rules R174, R190): from a controller in step, one `LD.CLEAR` with its wait leaves the
cursor at home and DDRAM cleared, still in step, and a second one changes nothing of the controller. The busy wait orders
the completion of each command before what follows (rule R62). -/
def Obligations.ClearIsIdempotent : Prop :=
  ∀ (s : State) (v : Byte) (rest : List Slot), HostFree s → DistinctLines s.cfg →
    s.cfg.longWait = .poll → v.getLsbD 7 = false → InStep s →
    ∃ t u t' u', exec .ldClear s = .next t ∧ steps 14 (t.scheduled 14 (.ok v) rest) = .next u ∧
      InStep u ∧ u.ctrl.ac = 0#7 ∧ (∀ a, Memory.read u.ctrl.ddram a = 0x20#8) ∧
      exec .ldClear u = .next t' ∧ steps 14 (t'.scheduled 14 (.ok v) rest) = .next u' ∧ u'.ctrl = u.ctrl

/-- The lines follow the last byte written (rules R41, R185): a step that writes a byte leaves it on the lines, and only
transfers change them. -/
def Obligations.LinesFollowWrites : Prop :=
  ∀ s t : State, step s = .next t →
    (∀ b, t.trace = s.trace ++ [.wrote s.cfg.lcdAddr b] → t.lines = b) ∧
    (t.lines ≠ s.lines → ∃ b, t.trace = s.trace ++ [.wrote s.cfg.lcdAddr b] ∨
      t.trace = s.trace ++ [.writeFailed s.cfg.lcdAddr b])

/-- What moves the peers (rules R56, R62, R188, R189, R197, R240): a bus read changes nothing at the bridge or the
controller, and the controller changes only when the schedule has it finish a command or on a write (the end of a busy
wait falls on one), never on a delay. -/
def Obligations.ReadsMoveNoPeer : Prop :=
  ∀ s t : State, step s = .next t →
    (∀ b, t.trace = s.trace ++ [.read s.cfg.lcdAddr b] → t.lines = s.lines ∧ t.ctrl = s.ctrl) ∧
    (t.ctrl ≠ s.ctrl → (∃ rest, s.schedule = .ready :: rest) ∨
      ∃ b, t.trace = s.trace ++ [.wrote s.cfg.lcdAddr b] ∨ t.trace = s.trace ++ [.writeFailed s.cfg.lcdAddr b])

/-- The controller finishing its command: BUSY returns to 0 and nothing else changes (rule R189). It is an event of its
own, whose time is an input (log entries 1, 14), and at the latest it is part of the last write of the status read that
ends a busy wait, whatever operation waits, so that it stands before the first phase of the next command (rule R62). -/
def Obligations.ControllerFinishes : Prop :=
  (∀ (s : State) (rest : List Slot), s.schedule = .ready :: rest →
    step s = .next { s with ctrl := { s.ctrl with busy := false }, schedule := rest, agent := .host }) ∧
  (∀ (s : State) (r : LdRun) (v : Byte), s.seqTc = .idle → s.seqLd = .active r → r.place = .probe .lower .three →
    r.op ≠ .status → busyOf (statusByte s.b1 s.b2) = false →
    ∃ t, hostStep (.ok v) s = .next t ∧
      t.ctrl = { (busWrite (probeByte s.cfg .three) (.ok v) s).ctrl with busy := false } ∧
      (r.cmd + 1 < (r.op.commands s.cfg).length →
        ∃ q, t.seqLd = .active q ∧ q.op = r.op ∧ q.cmd = r.cmd + 1 ∧ q.place = .phase 0 .one) ∧
      (¬ r.cmd + 1 < (r.op.commands s.cfg).length → t.seqLd = .idle ∧ t.result = some (r.op.finalResult s.cfg)))

/-! ### The whole machine -/

/-- A step runs the decoded instruction: the entry is taken off the schedule, the instruction is executed with its agent
the one taking the step, and the host is next (rules R66, R212). -/
def Obligations.StepRunsDecoded : Prop :=
  ∀ (s : State) (who : Agent) (fmt : Format) (bytes tail : List Byte) (rest : List Slot) (i : Instr),
    s.schedule = .request who fmt bytes :: rest → decode s.cfg.fsLayout fmt bytes = .ok i tail →
    (∀ t, exec i { s with schedule := rest, agent := who } = .next t → step s = .next { t with agent := .host }) ∧
    (∀ r, exec i { s with schedule := rest, agent := who } = .refused r → step s = .refused r) ∧
    (∀ r, exec i { s with schedule := rest, agent := who } = .fault r → step s = .fault r)

/-- The values rule R25 gives for hardware reset: the timer stopped, nothing enabled, masked or pending, both sequencers
idle, normal context. -/
def Obligations.ResetValues : Prop :=
  State.reset.cnt = 0#16 ∧ State.reset.ovf = false ∧ State.reset.run = false ∧ State.reset.ovie = false ∧
  State.reset.mask = false ∧ State.reset.seqTc = .idle ∧ State.reset.seqLd = .idle ∧ State.reset.agent = .host ∧
  State.reset.outValid = false

/-- The invariant holds at reset. -/
def Obligations.ResetMeetsInvariant : Prop := State.reset.Inv

/-- Every step keeps the invariant: the tally has its width, `MASK` is 1 exactly inside a critical section, one operation
at most is in flight, `SEQ_LD` names a place its operation has, `OUT` has `FMT_CAP` bytes, DDRAM is in canonical form. -/
def Obligations.StepKeepsInvariant : Prop :=
  ∀ s t : State, s.Inv → step s = .next t → t.Inv

/-- Under the invariant no step faults: the sequencer never leaves its operation (rule R16). -/
def Obligations.NoStepFaults : Prop :=
  ∀ (s : State) (f : Fault), s.Inv → step s ≠ .fault f

/-- The parameters are fixed before any operation: no step writes them (rules R22, R234). -/
def Obligations.ParametersNeverChange : Prop :=
  ∀ s t : State, step s = .next t → t.cfg = s.cfg

/-- The units share no state (rule R2): a step of unit LD leaves units TC and FMT as they are, and a step of unit TC or
FMT leaves unit LD and the peers as they are. Stated by what a step changes. -/
def Obligations.UnitsShareNoState : Prop :=
  ∀ s t : State, step s = .next t →
    ((t.lines ≠ s.lines ∨ t.b1 ≠ s.b1 ∨ t.b2 ≠ s.b2 ∨ t.trace ≠ s.trace ∨ t.seqLd ≠ s.seqLd ∨ t.ctrl ≠ s.ctrl) →
      t.cnt = s.cnt ∧ t.tally = s.tally ∧ t.tL = s.tL ∧ t.rL = s.rL ∧ t.pL = s.pL ∧ t.ovf = s.ovf ∧ t.run = s.run ∧
        t.clksel = s.clksel ∧ t.ovie = s.ovie ∧ t.mask = s.mask ∧ t.seqTc = s.seqTc ∧ t.out = s.out ∧
        t.outLen = s.outLen ∧ t.outValid = s.outValid) ∧
    ((t.out ≠ s.out ∨ t.outLen ≠ s.outLen ∨ t.outValid ≠ s.outValid) →
      t.cnt = s.cnt ∧ t.tally = s.tally ∧ t.ovf = s.ovf ∧ t.run = s.run ∧ t.clksel = s.clksel ∧ t.ovie = s.ovie ∧
        t.mask = s.mask ∧ t.seqTc = s.seqTc ∧ t.tL = s.tL ∧ t.rL = s.rL ∧ t.pL = s.pL)

/-! ### The visible display -/

/-- The cursor map covers the visible display (rules R172, R195): position `16 * r + c` names the cell of row `r`, column
`c`, and no position outside 0 to 31 names a cell. -/
def Obligations.CursorMapIsTheGrid : Prop :=
  (∀ (row : Fin 2) (column : Fin 16),
    cursorAddress (BitVec.ofNat 8 (16 * row.val + column.val)) = some (0x40 * row.val + column.val)) ∧
  (∀ p : Byte, (cursorAddress p).isSome = true ↔ p.toNat ≤ 31)

/-- A character written at a visible cell shows there and nowhere else (rules R152, R193, R195): with the controller in
step and its address counter at the cell of row `row`, column `column`, a whole `SEND` of WriteData makes the display
show the byte at that row and column and leaves every other visible character as it was. -/
def Obligations.WrittenCharacterIsVisible : Prop :=
  ∀ (s : State) (row : Fin 2) (column : Fin 16) (b v : Byte) (rest : List Slot), HostFree s → DistinctLines s.cfg →
    InStep s → Memory.wf s.ctrl.ddram → s.ctrl.ac.toNat = 0x40 * row.val + column.val →
    ∃ t u, exec (.writeData b) s = .next t ∧ steps 6 (t.scheduled 6 (.ok v) rest) = .next u ∧
      ∀ (row' : Fin 2) (column' : Fin 16),
        visibleCharacter u row' column' =
          if row' = row ∧ column' = column then b else visibleCharacter s row' column'
end

