-- ==== Sys2Proof/Laws/Memory.lean ====
section
/-! SUPPORT. The laws of memory: a read after a write, and that every operation keeps the canonical form. -/

namespace Sys2Proof.Machine

theorem Memory.read_write_same (m : Memory) (a : Nat) (b : Byte) (h : m.Pairwise (fun x y => x.1 < y.1)) :
    Memory.read (Memory.write m a b) a = b := by
  induction m with
  | nil => by_cases hb : b = Memory.blank <;> simp [Memory.write, Memory.read, hb]
  | cons c t ih =>
    have above : ∀ t' : Memory, (∀ x ∈ t', a < x.1) → Memory.read t' a = Memory.blank := by
      intro t' ht
      induction t' with
      | nil => rfl
      | cons d u ihu =>
        have := ht d (by simp)
        simp only [Memory.read]
        rw [if_neg (by omega)]
        exact ihu (fun x hx => ht x (by simp [hx]))
    rw [List.pairwise_cons] at h
    simp only [Memory.write]
    split
    · split
      · rename_i h1 h2
        rw [h2]
        exact above _ (by
          intro x hx
          rcases List.mem_cons.1 hx with rfl | hx
          · exact h1
          · have := h.1 x hx; omega)
      · simp [Memory.read]
    · split
      · split
        · rename_i h2 h3
          rw [h3]
          exact above _ (fun x hx => by have := h.1 x hx; omega)
        · simp [Memory.read]
      · rename_i h2
        simp only [Memory.read, if_neg h2]
        exact ih h.2

theorem Memory.read_write_other (m : Memory) (a a' : Nat) (b : Byte) (h : a' ≠ a)
    (hm : m.Pairwise (fun x y => x.1 < y.1)) :
    Memory.read (Memory.write m a b) a' = Memory.read m a' := by
  induction m with
  | nil => by_cases hb : b = Memory.blank <;> simp [Memory.write, Memory.read, hb, Ne.symm h]
  | cons c t ih =>
    rw [List.pairwise_cons] at hm
    simp only [Memory.write]
    split
    · split
      · rfl
      · simp [Memory.read, Ne.symm h]
    · split
      · rename_i h2
        split
        · simp only [Memory.read]
          rw [if_neg (by omega)]
        · simp only [Memory.read]
          rw [if_neg (by omega), if_neg (by omega)]
      · simp only [Memory.read]
        rw [ih hm.2]

/-- Every cell of a written memory is the cell written or one that was there. -/
theorem Memory.mem_write (m : Memory) (a : Nat) (b : Byte) (c : Host.Cell) (h : c ∈ Memory.write m a b) :
    (c = (a, b) ∧ b ≠ Memory.blank) ∨ c ∈ m := by
  induction m with
  | nil =>
    by_cases hb : b = Memory.blank
    · simp [Memory.write, hb] at h
    · simp [Memory.write, hb] at h; exact Or.inl ⟨h, hb⟩
  | cons d t ih =>
    simp only [Memory.write] at h
    split at h
    · split at h
      · exact Or.inr h
      · rename_i hb
        rcases List.mem_cons.1 h with h | h
        · exact Or.inl ⟨h, hb⟩
        · exact Or.inr h
    · split at h
      · split at h
        · exact Or.inr (by simp [h])
        · rename_i hb
          rcases List.mem_cons.1 h with h | h
          · exact Or.inl ⟨h, hb⟩
          · exact Or.inr (by simp [h])
      · rcases List.mem_cons.1 h with h | h
        · exact Or.inr (by simp [h])
        · rcases ih h with h | h
          · exact Or.inl h
          · exact Or.inr (by simp [h])

theorem Memory.write_pairwise (m : Memory) (a : Nat) (b : Byte) (h : m.Pairwise (fun x y => x.1 < y.1)) :
    (Memory.write m a b).Pairwise (fun x y => x.1 < y.1) := by
  induction m with
  | nil => by_cases hb : b = Memory.blank <;> simp [Memory.write, hb]
  | cons d t ih =>
    have h0 := h
    rw [List.pairwise_cons] at h
    simp only [Memory.write]
    split
    · rename_i h1
      split
      · exact h0
      · refine List.pairwise_cons.2 ⟨fun x hx => ?_, h0⟩
        rcases List.mem_cons.1 hx with rfl | hx
        · exact h1
        · exact lt_trans h1 (h.1 x hx)
    · split
      · rename_i h2
        split
        · exact h.2
        · refine List.pairwise_cons.2 ⟨fun x hx => ?_, h.2⟩
          have := h.1 x hx
          simpa [h2] using this
      · refine List.pairwise_cons.2 ⟨fun x hx => ?_, ih h.2⟩
        rcases Memory.mem_write t a b x hx with ⟨rfl, -⟩ | hx
        · simp only; omega
        · exact h.1 x hx

theorem Memory.write_wf (m : Memory) (a : Nat) (b : Byte) (ha : a < Memory.size) (h : Memory.wf m) :
    Memory.wf (Memory.write m a b) := by
  refine ⟨Memory.write_pairwise m a b h.1, fun c hc => ?_⟩
  rcases Memory.mem_write m a b c hc with ⟨rfl, hb⟩ | hc
  · exact ⟨ha, hb⟩
  · exact h.2 c hc

theorem Memory.nil_wf : Memory.wf [] := by simp [Memory.wf]

theorem Memory.ofBytes_wf (f : Nat → Byte) : Memory.wf (Memory.ofBytes f) := by
  constructor
  · unfold Memory.ofBytes
    rw [List.pairwise_filterMap]
    refine List.Pairwise.imp ?_ List.pairwise_lt_range
    intro x y hxy b hb b' hb'
    split at hb <;> split at hb' <;> simp_all
    rw [← hb, ← hb']; exact hxy
  · intro c hc
    unfold Memory.ofBytes at hc
    obtain ⟨a, ha, hc⟩ := List.mem_filterMap.1 hc
    split at hc
    · cases hc
    · rename_i h
      cases hc
      exact ⟨List.mem_range.1 ha, h⟩

/-- A cell of the 7-bit space exists. -/
theorem Memory.address_lt (a : BitVec 7) : a.toNat < Memory.size := a.isLt

theorem reset_memory_wf : Memory.wf State.reset.ctrl.ddram := Memory.nil_wf

/-! ### The visible display -/

/-- Two visible cells with one address are one cell (rule R195). -/
theorem displayAddress_inj (r r' : Fin 2) (c c' : Fin 16) :
    displayAddress r c = displayAddress r' c' ↔ r = r' ∧ c = c' := by
  unfold displayAddress
  omega

/-- What a byte stored at a visible cell does to the display: it shows there and changes no other character. -/
theorem visibleCharacter_write (s t : State) (r r' : Fin 2) (c c' : Fin 16) (b : Byte) (h : Memory.wf s.ctrl.ddram)
    (ht : t.ctrl.ddram = Memory.write s.ctrl.ddram (displayAddress r c) b) :
    visibleCharacter t r' c' = if r' = r ∧ c' = c then b else visibleCharacter s r' c' := by
  unfold visibleCharacter
  rw [ht]
  split
  · rename_i he
    obtain ⟨rfl, rfl⟩ := he
    exact Memory.read_write_same _ _ _ h.1
  · rename_i hne
    exact Memory.read_write_other _ _ _ _ (fun he => hne ((displayAddress_inj _ _ _ _).1 he)) h.1

end Sys2Proof.Machine
end

