-- ==== Sys2Proof/Laws/State.lean ====
section
/-! SUPPORT. The small lemmas of State: for each named update, each field after it, true by rfl. Later proofs cite these
and never unfold a record update. -/

namespace Sys2Proof.Machine

variable (s : State)

/-! ### enterCritical -/

@[simp] theorem enterCritical_cfg : (enterCritical s).cfg = s.cfg := rfl
@[simp] theorem enterCritical_cnt : (enterCritical s).cnt = s.cnt := rfl
@[simp] theorem enterCritical_tally : (enterCritical s).tally = s.tally := rfl
@[simp] theorem enterCritical_tL : (enterCritical s).tL = s.tL := rfl
@[simp] theorem enterCritical_rL : (enterCritical s).rL = s.rL := rfl
@[simp] theorem enterCritical_pL : (enterCritical s).pL = s.pL := rfl
@[simp] theorem enterCritical_ovf : (enterCritical s).ovf = s.ovf := rfl
@[simp] theorem enterCritical_run : (enterCritical s).run = s.run := rfl
@[simp] theorem enterCritical_clksel : (enterCritical s).clksel = s.clksel := rfl
@[simp] theorem enterCritical_ovie : (enterCritical s).ovie = s.ovie := rfl
@[simp] theorem enterCritical_mask : (enterCritical s).mask = true := rfl
@[simp] theorem enterCritical_seqTc : (enterCritical s).seqTc = s.seqTc := rfl
@[simp] theorem enterCritical_seqLd : (enterCritical s).seqLd = s.seqLd := rfl
@[simp] theorem enterCritical_b1 : (enterCritical s).b1 = s.b1 := rfl
@[simp] theorem enterCritical_b2 : (enterCritical s).b2 = s.b2 := rfl
@[simp] theorem enterCritical_out : (enterCritical s).out = s.out := rfl
@[simp] theorem enterCritical_outLen : (enterCritical s).outLen = s.outLen := rfl
@[simp] theorem enterCritical_outValid : (enterCritical s).outValid = s.outValid := rfl
@[simp] theorem enterCritical_lines : (enterCritical s).lines = s.lines := rfl
@[simp] theorem enterCritical_ctrl : (enterCritical s).ctrl = s.ctrl := rfl
@[simp] theorem enterCritical_agent : (enterCritical s).agent = s.agent := rfl
@[simp] theorem enterCritical_result : (enterCritical s).result = s.result := rfl
@[simp] theorem enterCritical_trace : (enterCritical s).trace = s.trace := rfl
@[simp] theorem enterCritical_schedule : (enterCritical s).schedule = s.schedule := rfl
@[simp] theorem enterCritical_draws : (enterCritical s).draws = s.draws := rfl

/-! ### leaveCritical -/

@[simp] theorem leaveCritical_cfg : (leaveCritical s).cfg = s.cfg := rfl
@[simp] theorem leaveCritical_cnt : (leaveCritical s).cnt = s.cnt := rfl
@[simp] theorem leaveCritical_tally : (leaveCritical s).tally = s.tally := rfl
@[simp] theorem leaveCritical_tL : (leaveCritical s).tL = s.tL := rfl
@[simp] theorem leaveCritical_rL : (leaveCritical s).rL = s.rL := rfl
@[simp] theorem leaveCritical_pL : (leaveCritical s).pL = s.pL := rfl
@[simp] theorem leaveCritical_ovf : (leaveCritical s).ovf = s.ovf := rfl
@[simp] theorem leaveCritical_run : (leaveCritical s).run = s.run := rfl
@[simp] theorem leaveCritical_clksel : (leaveCritical s).clksel = s.clksel := rfl
@[simp] theorem leaveCritical_ovie : (leaveCritical s).ovie = s.ovie := rfl
@[simp] theorem leaveCritical_mask : (leaveCritical s).mask = false := rfl
@[simp] theorem leaveCritical_seqTc : (leaveCritical s).seqTc = s.seqTc := rfl
@[simp] theorem leaveCritical_seqLd : (leaveCritical s).seqLd = s.seqLd := rfl
@[simp] theorem leaveCritical_b1 : (leaveCritical s).b1 = s.b1 := rfl
@[simp] theorem leaveCritical_b2 : (leaveCritical s).b2 = s.b2 := rfl
@[simp] theorem leaveCritical_out : (leaveCritical s).out = s.out := rfl
@[simp] theorem leaveCritical_outLen : (leaveCritical s).outLen = s.outLen := rfl
@[simp] theorem leaveCritical_outValid : (leaveCritical s).outValid = s.outValid := rfl
@[simp] theorem leaveCritical_lines : (leaveCritical s).lines = s.lines := rfl
@[simp] theorem leaveCritical_ctrl : (leaveCritical s).ctrl = s.ctrl := rfl
@[simp] theorem leaveCritical_agent : (leaveCritical s).agent = s.agent := rfl
@[simp] theorem leaveCritical_result : (leaveCritical s).result = s.result := rfl
@[simp] theorem leaveCritical_trace : (leaveCritical s).trace = s.trace := rfl
@[simp] theorem leaveCritical_schedule : (leaveCritical s).schedule = s.schedule := rfl
@[simp] theorem leaveCritical_draws : (leaveCritical s).draws = s.draws := rfl

/-! ### countOverflow -/

@[simp] theorem countOverflow_cfg : (countOverflow s).cfg = s.cfg := rfl
@[simp] theorem countOverflow_cnt : (countOverflow s).cnt = s.cnt := rfl
@[simp] theorem countOverflow_tally : (countOverflow s).tally = (s.tally + 1) % 2 ^ s.cfg.tallyWidth := rfl
@[simp] theorem countOverflow_tL : (countOverflow s).tL = s.tL := rfl
@[simp] theorem countOverflow_rL : (countOverflow s).rL = s.rL := rfl
@[simp] theorem countOverflow_pL : (countOverflow s).pL = s.pL := rfl
@[simp] theorem countOverflow_ovf : (countOverflow s).ovf = false := rfl
@[simp] theorem countOverflow_run : (countOverflow s).run = s.run := rfl
@[simp] theorem countOverflow_clksel : (countOverflow s).clksel = s.clksel := rfl
@[simp] theorem countOverflow_ovie : (countOverflow s).ovie = s.ovie := rfl
@[simp] theorem countOverflow_mask : (countOverflow s).mask = s.mask := rfl
@[simp] theorem countOverflow_seqTc : (countOverflow s).seqTc = s.seqTc := rfl
@[simp] theorem countOverflow_seqLd : (countOverflow s).seqLd = s.seqLd := rfl
@[simp] theorem countOverflow_b1 : (countOverflow s).b1 = s.b1 := rfl
@[simp] theorem countOverflow_b2 : (countOverflow s).b2 = s.b2 := rfl
@[simp] theorem countOverflow_out : (countOverflow s).out = s.out := rfl
@[simp] theorem countOverflow_outLen : (countOverflow s).outLen = s.outLen := rfl
@[simp] theorem countOverflow_outValid : (countOverflow s).outValid = s.outValid := rfl
@[simp] theorem countOverflow_lines : (countOverflow s).lines = s.lines := rfl
@[simp] theorem countOverflow_ctrl : (countOverflow s).ctrl = s.ctrl := rfl
@[simp] theorem countOverflow_agent : (countOverflow s).agent = s.agent := rfl
@[simp] theorem countOverflow_result : (countOverflow s).result = s.result := rfl
@[simp] theorem countOverflow_trace : (countOverflow s).trace = s.trace := rfl
@[simp] theorem countOverflow_schedule : (countOverflow s).schedule = s.schedule := rfl
@[simp] theorem countOverflow_draws : (countOverflow s).draws = s.draws := rfl

/-! ### resumeHost -/

@[simp] theorem resumeHost_cfg : (resumeHost s).cfg = s.cfg := rfl
@[simp] theorem resumeHost_cnt : (resumeHost s).cnt = s.cnt := rfl
@[simp] theorem resumeHost_tally : (resumeHost s).tally = s.tally := rfl
@[simp] theorem resumeHost_tL : (resumeHost s).tL = s.tL := rfl
@[simp] theorem resumeHost_rL : (resumeHost s).rL = s.rL := rfl
@[simp] theorem resumeHost_pL : (resumeHost s).pL = s.pL := rfl
@[simp] theorem resumeHost_ovf : (resumeHost s).ovf = s.ovf := rfl
@[simp] theorem resumeHost_run : (resumeHost s).run = s.run := rfl
@[simp] theorem resumeHost_clksel : (resumeHost s).clksel = s.clksel := rfl
@[simp] theorem resumeHost_ovie : (resumeHost s).ovie = s.ovie := rfl
@[simp] theorem resumeHost_mask : (resumeHost s).mask = s.mask := rfl
@[simp] theorem resumeHost_seqTc : (resumeHost s).seqTc = s.seqTc := rfl
@[simp] theorem resumeHost_seqLd : (resumeHost s).seqLd = s.seqLd := rfl
@[simp] theorem resumeHost_b1 : (resumeHost s).b1 = s.b1 := rfl
@[simp] theorem resumeHost_b2 : (resumeHost s).b2 = s.b2 := rfl
@[simp] theorem resumeHost_out : (resumeHost s).out = s.out := rfl
@[simp] theorem resumeHost_outLen : (resumeHost s).outLen = s.outLen := rfl
@[simp] theorem resumeHost_outValid : (resumeHost s).outValid = s.outValid := rfl
@[simp] theorem resumeHost_lines : (resumeHost s).lines = s.lines := rfl
@[simp] theorem resumeHost_ctrl : (resumeHost s).ctrl = s.ctrl := rfl
@[simp] theorem resumeHost_agent : (resumeHost s).agent = .host := rfl
@[simp] theorem resumeHost_result : (resumeHost s).result = s.result := rfl
@[simp] theorem resumeHost_trace : (resumeHost s).trace = s.trace := rfl
@[simp] theorem resumeHost_schedule : (resumeHost s).schedule = s.schedule := rfl
@[simp] theorem resumeHost_draws : (resumeHost s).draws = s.draws := rfl

/-! ### setController -/

@[simp] theorem setController_cfg (c : Controller) : (setController c s).cfg = s.cfg := rfl
@[simp] theorem setController_cnt (c : Controller) : (setController c s).cnt = s.cnt := rfl
@[simp] theorem setController_tally (c : Controller) : (setController c s).tally = s.tally := rfl
@[simp] theorem setController_tL (c : Controller) : (setController c s).tL = s.tL := rfl
@[simp] theorem setController_rL (c : Controller) : (setController c s).rL = s.rL := rfl
@[simp] theorem setController_pL (c : Controller) : (setController c s).pL = s.pL := rfl
@[simp] theorem setController_ovf (c : Controller) : (setController c s).ovf = s.ovf := rfl
@[simp] theorem setController_run (c : Controller) : (setController c s).run = s.run := rfl
@[simp] theorem setController_clksel (c : Controller) : (setController c s).clksel = s.clksel := rfl
@[simp] theorem setController_ovie (c : Controller) : (setController c s).ovie = s.ovie := rfl
@[simp] theorem setController_mask (c : Controller) : (setController c s).mask = s.mask := rfl
@[simp] theorem setController_seqTc (c : Controller) : (setController c s).seqTc = s.seqTc := rfl
@[simp] theorem setController_seqLd (c : Controller) : (setController c s).seqLd = s.seqLd := rfl
@[simp] theorem setController_b1 (c : Controller) : (setController c s).b1 = s.b1 := rfl
@[simp] theorem setController_b2 (c : Controller) : (setController c s).b2 = s.b2 := rfl
@[simp] theorem setController_out (c : Controller) : (setController c s).out = s.out := rfl
@[simp] theorem setController_outLen (c : Controller) : (setController c s).outLen = s.outLen := rfl
@[simp] theorem setController_outValid (c : Controller) : (setController c s).outValid = s.outValid := rfl
@[simp] theorem setController_lines (c : Controller) : (setController c s).lines = s.lines := rfl
@[simp] theorem setController_ctrl (c : Controller) : (setController c s).ctrl = c := rfl
@[simp] theorem setController_agent (c : Controller) : (setController c s).agent = s.agent := rfl
@[simp] theorem setController_result (c : Controller) : (setController c s).result = s.result := rfl
@[simp] theorem setController_trace (c : Controller) : (setController c s).trace = s.trace := rfl
@[simp] theorem setController_schedule (c : Controller) : (setController c s).schedule = s.schedule := rfl
@[simp] theorem setController_draws (c : Controller) : (setController c s).draws = s.draws := rfl

/-! ### controllerReady -/

@[simp] theorem controllerReady_cfg : (controllerReady s).cfg = s.cfg := rfl
@[simp] theorem controllerReady_cnt : (controllerReady s).cnt = s.cnt := rfl
@[simp] theorem controllerReady_tally : (controllerReady s).tally = s.tally := rfl
@[simp] theorem controllerReady_tL : (controllerReady s).tL = s.tL := rfl
@[simp] theorem controllerReady_rL : (controllerReady s).rL = s.rL := rfl
@[simp] theorem controllerReady_pL : (controllerReady s).pL = s.pL := rfl
@[simp] theorem controllerReady_ovf : (controllerReady s).ovf = s.ovf := rfl
@[simp] theorem controllerReady_run : (controllerReady s).run = s.run := rfl
@[simp] theorem controllerReady_clksel : (controllerReady s).clksel = s.clksel := rfl
@[simp] theorem controllerReady_ovie : (controllerReady s).ovie = s.ovie := rfl
@[simp] theorem controllerReady_mask : (controllerReady s).mask = s.mask := rfl
@[simp] theorem controllerReady_seqTc : (controllerReady s).seqTc = s.seqTc := rfl
@[simp] theorem controllerReady_seqLd : (controllerReady s).seqLd = s.seqLd := rfl
@[simp] theorem controllerReady_b1 : (controllerReady s).b1 = s.b1 := rfl
@[simp] theorem controllerReady_b2 : (controllerReady s).b2 = s.b2 := rfl
@[simp] theorem controllerReady_out : (controllerReady s).out = s.out := rfl
@[simp] theorem controllerReady_outLen : (controllerReady s).outLen = s.outLen := rfl
@[simp] theorem controllerReady_outValid : (controllerReady s).outValid = s.outValid := rfl
@[simp] theorem controllerReady_lines : (controllerReady s).lines = s.lines := rfl
@[simp] theorem controllerReady_ctrl : (controllerReady s).ctrl = { s.ctrl with busy := false } := rfl
@[simp] theorem controllerReady_agent : (controllerReady s).agent = s.agent := rfl
@[simp] theorem controllerReady_result : (controllerReady s).result = s.result := rfl
@[simp] theorem controllerReady_trace : (controllerReady s).trace = s.trace := rfl
@[simp] theorem controllerReady_schedule : (controllerReady s).schedule = s.schedule := rfl
@[simp] theorem controllerReady_draws : (controllerReady s).draws = s.draws := rfl

/-! ### drawController -/

@[simp] theorem drawController_cfg : (drawController s).cfg = s.cfg := rfl
@[simp] theorem drawController_cnt : (drawController s).cnt = s.cnt := rfl
@[simp] theorem drawController_tally : (drawController s).tally = s.tally := rfl
@[simp] theorem drawController_tL : (drawController s).tL = s.tL := rfl
@[simp] theorem drawController_rL : (drawController s).rL = s.rL := rfl
@[simp] theorem drawController_pL : (drawController s).pL = s.pL := rfl
@[simp] theorem drawController_ovf : (drawController s).ovf = s.ovf := rfl
@[simp] theorem drawController_run : (drawController s).run = s.run := rfl
@[simp] theorem drawController_clksel : (drawController s).clksel = s.clksel := rfl
@[simp] theorem drawController_ovie : (drawController s).ovie = s.ovie := rfl
@[simp] theorem drawController_mask : (drawController s).mask = s.mask := rfl
@[simp] theorem drawController_seqTc : (drawController s).seqTc = s.seqTc := rfl
@[simp] theorem drawController_seqLd : (drawController s).seqLd = s.seqLd := rfl
@[simp] theorem drawController_b1 : (drawController s).b1 = s.b1 := rfl
@[simp] theorem drawController_b2 : (drawController s).b2 = s.b2 := rfl
@[simp] theorem drawController_out : (drawController s).out = s.out := rfl
@[simp] theorem drawController_outLen : (drawController s).outLen = s.outLen := rfl
@[simp] theorem drawController_outValid : (drawController s).outValid = s.outValid := rfl
@[simp] theorem drawController_lines : (drawController s).lines = s.lines := rfl
@[simp] theorem drawController_ctrl : (drawController s).ctrl = freeController s.draws := rfl
@[simp] theorem drawController_agent : (drawController s).agent = s.agent := rfl
@[simp] theorem drawController_result : (drawController s).result = s.result := rfl
@[simp] theorem drawController_trace : (drawController s).trace = s.trace := rfl
@[simp] theorem drawController_schedule : (drawController s).schedule = s.schedule := rfl
@[simp] theorem drawController_draws : (drawController s).draws = s.draws + 1 := rfl

/-! ### emit -/

@[simp] theorem emit_cfg (e : Event) : (emit e s).cfg = s.cfg := rfl
@[simp] theorem emit_cnt (e : Event) : (emit e s).cnt = s.cnt := rfl
@[simp] theorem emit_tally (e : Event) : (emit e s).tally = s.tally := rfl
@[simp] theorem emit_tL (e : Event) : (emit e s).tL = s.tL := rfl
@[simp] theorem emit_rL (e : Event) : (emit e s).rL = s.rL := rfl
@[simp] theorem emit_pL (e : Event) : (emit e s).pL = s.pL := rfl
@[simp] theorem emit_ovf (e : Event) : (emit e s).ovf = s.ovf := rfl
@[simp] theorem emit_run (e : Event) : (emit e s).run = s.run := rfl
@[simp] theorem emit_clksel (e : Event) : (emit e s).clksel = s.clksel := rfl
@[simp] theorem emit_ovie (e : Event) : (emit e s).ovie = s.ovie := rfl
@[simp] theorem emit_mask (e : Event) : (emit e s).mask = s.mask := rfl
@[simp] theorem emit_seqTc (e : Event) : (emit e s).seqTc = s.seqTc := rfl
@[simp] theorem emit_seqLd (e : Event) : (emit e s).seqLd = s.seqLd := rfl
@[simp] theorem emit_b1 (e : Event) : (emit e s).b1 = s.b1 := rfl
@[simp] theorem emit_b2 (e : Event) : (emit e s).b2 = s.b2 := rfl
@[simp] theorem emit_out (e : Event) : (emit e s).out = s.out := rfl
@[simp] theorem emit_outLen (e : Event) : (emit e s).outLen = s.outLen := rfl
@[simp] theorem emit_outValid (e : Event) : (emit e s).outValid = s.outValid := rfl
@[simp] theorem emit_lines (e : Event) : (emit e s).lines = s.lines := rfl
@[simp] theorem emit_ctrl (e : Event) : (emit e s).ctrl = s.ctrl := rfl
@[simp] theorem emit_agent (e : Event) : (emit e s).agent = s.agent := rfl
@[simp] theorem emit_result (e : Event) : (emit e s).result = s.result := rfl
@[simp] theorem emit_trace (e : Event) : (emit e s).trace = s.trace ++ [e] := rfl
@[simp] theorem emit_schedule (e : Event) : (emit e s).schedule = s.schedule := rfl
@[simp] theorem emit_draws (e : Event) : (emit e s).draws = s.draws := rfl

/-! ### delay -/

@[simp] theorem delay_cfg (us : Nat) : (delay us s).cfg = s.cfg := rfl
@[simp] theorem delay_cnt (us : Nat) : (delay us s).cnt = s.cnt := rfl
@[simp] theorem delay_tally (us : Nat) : (delay us s).tally = s.tally := rfl
@[simp] theorem delay_tL (us : Nat) : (delay us s).tL = s.tL := rfl
@[simp] theorem delay_rL (us : Nat) : (delay us s).rL = s.rL := rfl
@[simp] theorem delay_pL (us : Nat) : (delay us s).pL = s.pL := rfl
@[simp] theorem delay_ovf (us : Nat) : (delay us s).ovf = s.ovf := rfl
@[simp] theorem delay_run (us : Nat) : (delay us s).run = s.run := rfl
@[simp] theorem delay_clksel (us : Nat) : (delay us s).clksel = s.clksel := rfl
@[simp] theorem delay_ovie (us : Nat) : (delay us s).ovie = s.ovie := rfl
@[simp] theorem delay_mask (us : Nat) : (delay us s).mask = s.mask := rfl
@[simp] theorem delay_seqTc (us : Nat) : (delay us s).seqTc = s.seqTc := rfl
@[simp] theorem delay_seqLd (us : Nat) : (delay us s).seqLd = s.seqLd := rfl
@[simp] theorem delay_b1 (us : Nat) : (delay us s).b1 = s.b1 := rfl
@[simp] theorem delay_b2 (us : Nat) : (delay us s).b2 = s.b2 := rfl
@[simp] theorem delay_out (us : Nat) : (delay us s).out = s.out := rfl
@[simp] theorem delay_outLen (us : Nat) : (delay us s).outLen = s.outLen := rfl
@[simp] theorem delay_outValid (us : Nat) : (delay us s).outValid = s.outValid := rfl
@[simp] theorem delay_lines (us : Nat) : (delay us s).lines = s.lines := rfl
@[simp] theorem delay_ctrl (us : Nat) : (delay us s).ctrl = s.ctrl := rfl
@[simp] theorem delay_agent (us : Nat) : (delay us s).agent = s.agent := rfl
@[simp] theorem delay_result (us : Nat) : (delay us s).result = s.result := rfl
@[simp] theorem delay_trace (us : Nat) : (delay us s).trace = s.trace ++ [.delay us] := rfl
@[simp] theorem delay_schedule (us : Nat) : (delay us s).schedule = s.schedule := rfl
@[simp] theorem delay_draws (us : Nat) : (delay us s).draws = s.draws := rfl

/-! ### finishLd -/

@[simp] theorem finishLd_cfg (r : Result) : (finishLd r s).cfg = s.cfg := rfl
@[simp] theorem finishLd_cnt (r : Result) : (finishLd r s).cnt = s.cnt := rfl
@[simp] theorem finishLd_tally (r : Result) : (finishLd r s).tally = s.tally := rfl
@[simp] theorem finishLd_tL (r : Result) : (finishLd r s).tL = s.tL := rfl
@[simp] theorem finishLd_rL (r : Result) : (finishLd r s).rL = s.rL := rfl
@[simp] theorem finishLd_pL (r : Result) : (finishLd r s).pL = s.pL := rfl
@[simp] theorem finishLd_ovf (r : Result) : (finishLd r s).ovf = s.ovf := rfl
@[simp] theorem finishLd_run (r : Result) : (finishLd r s).run = s.run := rfl
@[simp] theorem finishLd_clksel (r : Result) : (finishLd r s).clksel = s.clksel := rfl
@[simp] theorem finishLd_ovie (r : Result) : (finishLd r s).ovie = s.ovie := rfl
@[simp] theorem finishLd_mask (r : Result) : (finishLd r s).mask = s.mask := rfl
@[simp] theorem finishLd_seqTc (r : Result) : (finishLd r s).seqTc = s.seqTc := rfl
@[simp] theorem finishLd_seqLd (r : Result) : (finishLd r s).seqLd = .idle := rfl
@[simp] theorem finishLd_b1 (r : Result) : (finishLd r s).b1 = s.b1 := rfl
@[simp] theorem finishLd_b2 (r : Result) : (finishLd r s).b2 = s.b2 := rfl
@[simp] theorem finishLd_out (r : Result) : (finishLd r s).out = s.out := rfl
@[simp] theorem finishLd_outLen (r : Result) : (finishLd r s).outLen = s.outLen := rfl
@[simp] theorem finishLd_outValid (r : Result) : (finishLd r s).outValid = s.outValid := rfl
@[simp] theorem finishLd_lines (r : Result) : (finishLd r s).lines = s.lines := rfl
@[simp] theorem finishLd_ctrl (r : Result) : (finishLd r s).ctrl = s.ctrl := rfl
@[simp] theorem finishLd_agent (r : Result) : (finishLd r s).agent = s.agent := rfl
@[simp] theorem finishLd_result (r : Result) : (finishLd r s).result = some r := rfl
@[simp] theorem finishLd_trace (r : Result) : (finishLd r s).trace = s.trace := rfl
@[simp] theorem finishLd_schedule (r : Result) : (finishLd r s).schedule = s.schedule := rfl
@[simp] theorem finishLd_draws (r : Result) : (finishLd r s).draws = s.draws := rfl

/-! ### raiseLd -/

@[simp] theorem raiseLd_cfg (e : OpError) : (raiseLd e s).cfg = s.cfg := rfl
@[simp] theorem raiseLd_cnt (e : OpError) : (raiseLd e s).cnt = s.cnt := rfl
@[simp] theorem raiseLd_tally (e : OpError) : (raiseLd e s).tally = s.tally := rfl
@[simp] theorem raiseLd_tL (e : OpError) : (raiseLd e s).tL = s.tL := rfl
@[simp] theorem raiseLd_rL (e : OpError) : (raiseLd e s).rL = s.rL := rfl
@[simp] theorem raiseLd_pL (e : OpError) : (raiseLd e s).pL = s.pL := rfl
@[simp] theorem raiseLd_ovf (e : OpError) : (raiseLd e s).ovf = s.ovf := rfl
@[simp] theorem raiseLd_run (e : OpError) : (raiseLd e s).run = s.run := rfl
@[simp] theorem raiseLd_clksel (e : OpError) : (raiseLd e s).clksel = s.clksel := rfl
@[simp] theorem raiseLd_ovie (e : OpError) : (raiseLd e s).ovie = s.ovie := rfl
@[simp] theorem raiseLd_mask (e : OpError) : (raiseLd e s).mask = s.mask := rfl
@[simp] theorem raiseLd_seqTc (e : OpError) : (raiseLd e s).seqTc = s.seqTc := rfl
@[simp] theorem raiseLd_seqLd (e : OpError) : (raiseLd e s).seqLd = .idle := rfl
@[simp] theorem raiseLd_b1 (e : OpError) : (raiseLd e s).b1 = s.b1 := rfl
@[simp] theorem raiseLd_b2 (e : OpError) : (raiseLd e s).b2 = s.b2 := rfl
@[simp] theorem raiseLd_out (e : OpError) : (raiseLd e s).out = s.out := rfl
@[simp] theorem raiseLd_outLen (e : OpError) : (raiseLd e s).outLen = s.outLen := rfl
@[simp] theorem raiseLd_outValid (e : OpError) : (raiseLd e s).outValid = s.outValid := rfl
@[simp] theorem raiseLd_lines (e : OpError) : (raiseLd e s).lines = s.lines := rfl
@[simp] theorem raiseLd_ctrl (e : OpError) : (raiseLd e s).ctrl = s.ctrl := rfl
@[simp] theorem raiseLd_agent (e : OpError) : (raiseLd e s).agent = s.agent := rfl
@[simp] theorem raiseLd_result (e : OpError) : (raiseLd e s).result = some (.error e) := rfl
@[simp] theorem raiseLd_trace (e : OpError) : (raiseLd e s).trace = s.trace := rfl
@[simp] theorem raiseLd_schedule (e : OpError) : (raiseLd e s).schedule = s.schedule := rfl
@[simp] theorem raiseLd_draws (e : OpError) : (raiseLd e s).draws = s.draws := rfl

/-! ### returnResult -/

@[simp] theorem returnResult_cfg (r : Result) : (returnResult r s).cfg = s.cfg := rfl
@[simp] theorem returnResult_cnt (r : Result) : (returnResult r s).cnt = s.cnt := rfl
@[simp] theorem returnResult_tally (r : Result) : (returnResult r s).tally = s.tally := rfl
@[simp] theorem returnResult_tL (r : Result) : (returnResult r s).tL = s.tL := rfl
@[simp] theorem returnResult_rL (r : Result) : (returnResult r s).rL = s.rL := rfl
@[simp] theorem returnResult_pL (r : Result) : (returnResult r s).pL = s.pL := rfl
@[simp] theorem returnResult_ovf (r : Result) : (returnResult r s).ovf = s.ovf := rfl
@[simp] theorem returnResult_run (r : Result) : (returnResult r s).run = s.run := rfl
@[simp] theorem returnResult_clksel (r : Result) : (returnResult r s).clksel = s.clksel := rfl
@[simp] theorem returnResult_ovie (r : Result) : (returnResult r s).ovie = s.ovie := rfl
@[simp] theorem returnResult_mask (r : Result) : (returnResult r s).mask = s.mask := rfl
@[simp] theorem returnResult_seqTc (r : Result) : (returnResult r s).seqTc = s.seqTc := rfl
@[simp] theorem returnResult_seqLd (r : Result) : (returnResult r s).seqLd = s.seqLd := rfl
@[simp] theorem returnResult_b1 (r : Result) : (returnResult r s).b1 = s.b1 := rfl
@[simp] theorem returnResult_b2 (r : Result) : (returnResult r s).b2 = s.b2 := rfl
@[simp] theorem returnResult_out (r : Result) : (returnResult r s).out = s.out := rfl
@[simp] theorem returnResult_outLen (r : Result) : (returnResult r s).outLen = s.outLen := rfl
@[simp] theorem returnResult_outValid (r : Result) : (returnResult r s).outValid = s.outValid := rfl
@[simp] theorem returnResult_lines (r : Result) : (returnResult r s).lines = s.lines := rfl
@[simp] theorem returnResult_ctrl (r : Result) : (returnResult r s).ctrl = s.ctrl := rfl
@[simp] theorem returnResult_agent (r : Result) : (returnResult r s).agent = s.agent := rfl
@[simp] theorem returnResult_result (r : Result) : (returnResult r s).result = some r := rfl
@[simp] theorem returnResult_trace (r : Result) : (returnResult r s).trace = s.trace := rfl
@[simp] theorem returnResult_schedule (r : Result) : (returnResult r s).schedule = s.schedule := rfl
@[simp] theorem returnResult_draws (r : Result) : (returnResult r s).draws = s.draws := rfl

/-! ### beginLd -/

@[simp] theorem beginLd_cfg (op : LdOp) : (beginLd op s).cfg = s.cfg := rfl
@[simp] theorem beginLd_cnt (op : LdOp) : (beginLd op s).cnt = s.cnt := rfl
@[simp] theorem beginLd_tally (op : LdOp) : (beginLd op s).tally = s.tally := rfl
@[simp] theorem beginLd_tL (op : LdOp) : (beginLd op s).tL = s.tL := rfl
@[simp] theorem beginLd_rL (op : LdOp) : (beginLd op s).rL = s.rL := rfl
@[simp] theorem beginLd_pL (op : LdOp) : (beginLd op s).pL = s.pL := rfl
@[simp] theorem beginLd_ovf (op : LdOp) : (beginLd op s).ovf = s.ovf := rfl
@[simp] theorem beginLd_run (op : LdOp) : (beginLd op s).run = s.run := rfl
@[simp] theorem beginLd_clksel (op : LdOp) : (beginLd op s).clksel = s.clksel := rfl
@[simp] theorem beginLd_ovie (op : LdOp) : (beginLd op s).ovie = s.ovie := rfl
@[simp] theorem beginLd_mask (op : LdOp) : (beginLd op s).mask = s.mask := rfl
@[simp] theorem beginLd_seqTc (op : LdOp) : (beginLd op s).seqTc = s.seqTc := rfl
@[simp] theorem beginLd_seqLd (op : LdOp) : (beginLd op s).seqLd = .active (LdRun.start op) := rfl
@[simp] theorem beginLd_b1 (op : LdOp) : (beginLd op s).b1 = s.b1 := rfl
@[simp] theorem beginLd_b2 (op : LdOp) : (beginLd op s).b2 = s.b2 := rfl
@[simp] theorem beginLd_out (op : LdOp) : (beginLd op s).out = s.out := rfl
@[simp] theorem beginLd_outLen (op : LdOp) : (beginLd op s).outLen = s.outLen := rfl
@[simp] theorem beginLd_outValid (op : LdOp) : (beginLd op s).outValid = s.outValid := rfl
@[simp] theorem beginLd_lines (op : LdOp) : (beginLd op s).lines = s.lines := rfl
@[simp] theorem beginLd_ctrl (op : LdOp) : (beginLd op s).ctrl = s.ctrl := rfl
@[simp] theorem beginLd_agent (op : LdOp) : (beginLd op s).agent = s.agent := rfl
@[simp] theorem beginLd_result (op : LdOp) : (beginLd op s).result = none := rfl
@[simp] theorem beginLd_trace (op : LdOp) : (beginLd op s).trace = s.trace := rfl
@[simp] theorem beginLd_schedule (op : LdOp) : (beginLd op s).schedule = s.schedule := rfl
@[simp] theorem beginLd_draws (op : LdOp) : (beginLd op s).draws = s.draws := rfl

/-! ### setRun -/

@[simp] theorem setRun_cfg (r : LdRun) : (setRun r s).cfg = s.cfg := rfl
@[simp] theorem setRun_cnt (r : LdRun) : (setRun r s).cnt = s.cnt := rfl
@[simp] theorem setRun_tally (r : LdRun) : (setRun r s).tally = s.tally := rfl
@[simp] theorem setRun_tL (r : LdRun) : (setRun r s).tL = s.tL := rfl
@[simp] theorem setRun_rL (r : LdRun) : (setRun r s).rL = s.rL := rfl
@[simp] theorem setRun_pL (r : LdRun) : (setRun r s).pL = s.pL := rfl
@[simp] theorem setRun_ovf (r : LdRun) : (setRun r s).ovf = s.ovf := rfl
@[simp] theorem setRun_run (r : LdRun) : (setRun r s).run = s.run := rfl
@[simp] theorem setRun_clksel (r : LdRun) : (setRun r s).clksel = s.clksel := rfl
@[simp] theorem setRun_ovie (r : LdRun) : (setRun r s).ovie = s.ovie := rfl
@[simp] theorem setRun_mask (r : LdRun) : (setRun r s).mask = s.mask := rfl
@[simp] theorem setRun_seqTc (r : LdRun) : (setRun r s).seqTc = s.seqTc := rfl
@[simp] theorem setRun_seqLd (r : LdRun) : (setRun r s).seqLd = .active r := rfl
@[simp] theorem setRun_b1 (r : LdRun) : (setRun r s).b1 = s.b1 := rfl
@[simp] theorem setRun_b2 (r : LdRun) : (setRun r s).b2 = s.b2 := rfl
@[simp] theorem setRun_out (r : LdRun) : (setRun r s).out = s.out := rfl
@[simp] theorem setRun_outLen (r : LdRun) : (setRun r s).outLen = s.outLen := rfl
@[simp] theorem setRun_outValid (r : LdRun) : (setRun r s).outValid = s.outValid := rfl
@[simp] theorem setRun_lines (r : LdRun) : (setRun r s).lines = s.lines := rfl
@[simp] theorem setRun_ctrl (r : LdRun) : (setRun r s).ctrl = s.ctrl := rfl
@[simp] theorem setRun_agent (r : LdRun) : (setRun r s).agent = s.agent := rfl
@[simp] theorem setRun_result (r : LdRun) : (setRun r s).result = s.result := rfl
@[simp] theorem setRun_trace (r : LdRun) : (setRun r s).trace = s.trace := rfl
@[simp] theorem setRun_schedule (r : LdRun) : (setRun r s).schedule = s.schedule := rfl
@[simp] theorem setRun_draws (r : LdRun) : (setRun r s).draws = s.draws := rfl

/-! ### writeOut -/

@[simp] theorem writeOut_cfg (str : List Byte) : (writeOut str s).cfg = s.cfg := rfl
@[simp] theorem writeOut_cnt (str : List Byte) : (writeOut str s).cnt = s.cnt := rfl
@[simp] theorem writeOut_tally (str : List Byte) : (writeOut str s).tally = s.tally := rfl
@[simp] theorem writeOut_tL (str : List Byte) : (writeOut str s).tL = s.tL := rfl
@[simp] theorem writeOut_rL (str : List Byte) : (writeOut str s).rL = s.rL := rfl
@[simp] theorem writeOut_pL (str : List Byte) : (writeOut str s).pL = s.pL := rfl
@[simp] theorem writeOut_ovf (str : List Byte) : (writeOut str s).ovf = s.ovf := rfl
@[simp] theorem writeOut_run (str : List Byte) : (writeOut str s).run = s.run := rfl
@[simp] theorem writeOut_clksel (str : List Byte) : (writeOut str s).clksel = s.clksel := rfl
@[simp] theorem writeOut_ovie (str : List Byte) : (writeOut str s).ovie = s.ovie := rfl
@[simp] theorem writeOut_mask (str : List Byte) : (writeOut str s).mask = s.mask := rfl
@[simp] theorem writeOut_seqTc (str : List Byte) : (writeOut str s).seqTc = s.seqTc := rfl
@[simp] theorem writeOut_seqLd (str : List Byte) : (writeOut str s).seqLd = s.seqLd := rfl
@[simp] theorem writeOut_b1 (str : List Byte) : (writeOut str s).b1 = s.b1 := rfl
@[simp] theorem writeOut_b2 (str : List Byte) : (writeOut str s).b2 = s.b2 := rfl
@[simp] theorem writeOut_out (str : List Byte) : (writeOut str s).out = str ++ s.out.drop str.length := rfl
@[simp] theorem writeOut_outLen (str : List Byte) : (writeOut str s).outLen = str.length := rfl
@[simp] theorem writeOut_outValid (str : List Byte) : (writeOut str s).outValid = true := rfl
@[simp] theorem writeOut_lines (str : List Byte) : (writeOut str s).lines = s.lines := rfl
@[simp] theorem writeOut_ctrl (str : List Byte) : (writeOut str s).ctrl = s.ctrl := rfl
@[simp] theorem writeOut_agent (str : List Byte) : (writeOut str s).agent = s.agent := rfl
@[simp] theorem writeOut_result (str : List Byte) : (writeOut str s).result = s.result := rfl
@[simp] theorem writeOut_trace (str : List Byte) : (writeOut str s).trace = s.trace := rfl
@[simp] theorem writeOut_schedule (str : List Byte) : (writeOut str s).schedule = s.schedule := rfl
@[simp] theorem writeOut_draws (str : List Byte) : (writeOut str s).draws = s.draws := rfl

/-! ### voidOut -/

@[simp] theorem voidOut_cfg : (voidOut s).cfg = s.cfg := rfl
@[simp] theorem voidOut_cnt : (voidOut s).cnt = s.cnt := rfl
@[simp] theorem voidOut_tally : (voidOut s).tally = s.tally := rfl
@[simp] theorem voidOut_tL : (voidOut s).tL = s.tL := rfl
@[simp] theorem voidOut_rL : (voidOut s).rL = s.rL := rfl
@[simp] theorem voidOut_pL : (voidOut s).pL = s.pL := rfl
@[simp] theorem voidOut_ovf : (voidOut s).ovf = s.ovf := rfl
@[simp] theorem voidOut_run : (voidOut s).run = s.run := rfl
@[simp] theorem voidOut_clksel : (voidOut s).clksel = s.clksel := rfl
@[simp] theorem voidOut_ovie : (voidOut s).ovie = s.ovie := rfl
@[simp] theorem voidOut_mask : (voidOut s).mask = s.mask := rfl
@[simp] theorem voidOut_seqTc : (voidOut s).seqTc = s.seqTc := rfl
@[simp] theorem voidOut_seqLd : (voidOut s).seqLd = s.seqLd := rfl
@[simp] theorem voidOut_b1 : (voidOut s).b1 = s.b1 := rfl
@[simp] theorem voidOut_b2 : (voidOut s).b2 = s.b2 := rfl
@[simp] theorem voidOut_out : (voidOut s).out = s.out := rfl
@[simp] theorem voidOut_outLen : (voidOut s).outLen = s.outLen := rfl
@[simp] theorem voidOut_outValid : (voidOut s).outValid = false := rfl
@[simp] theorem voidOut_lines : (voidOut s).lines = s.lines := rfl
@[simp] theorem voidOut_ctrl : (voidOut s).ctrl = s.ctrl := rfl
@[simp] theorem voidOut_agent : (voidOut s).agent = s.agent := rfl
@[simp] theorem voidOut_result : (voidOut s).result = s.result := rfl
@[simp] theorem voidOut_trace : (voidOut s).trace = s.trace := rfl
@[simp] theorem voidOut_schedule : (voidOut s).schedule = s.schedule := rfl
@[simp] theorem voidOut_draws : (voidOut s).draws = s.draws := rfl

/-! ### openStep -/

@[simp] theorem openStep_cfg (who : Agent) (rest : List Slot) : (openStep who rest s).cfg = s.cfg := rfl
@[simp] theorem openStep_cnt (who : Agent) (rest : List Slot) : (openStep who rest s).cnt = s.cnt := rfl
@[simp] theorem openStep_tally (who : Agent) (rest : List Slot) : (openStep who rest s).tally = s.tally := rfl
@[simp] theorem openStep_tL (who : Agent) (rest : List Slot) : (openStep who rest s).tL = s.tL := rfl
@[simp] theorem openStep_rL (who : Agent) (rest : List Slot) : (openStep who rest s).rL = s.rL := rfl
@[simp] theorem openStep_pL (who : Agent) (rest : List Slot) : (openStep who rest s).pL = s.pL := rfl
@[simp] theorem openStep_ovf (who : Agent) (rest : List Slot) : (openStep who rest s).ovf = s.ovf := rfl
@[simp] theorem openStep_run (who : Agent) (rest : List Slot) : (openStep who rest s).run = s.run := rfl
@[simp] theorem openStep_clksel (who : Agent) (rest : List Slot) : (openStep who rest s).clksel = s.clksel := rfl
@[simp] theorem openStep_ovie (who : Agent) (rest : List Slot) : (openStep who rest s).ovie = s.ovie := rfl
@[simp] theorem openStep_mask (who : Agent) (rest : List Slot) : (openStep who rest s).mask = s.mask := rfl
@[simp] theorem openStep_seqTc (who : Agent) (rest : List Slot) : (openStep who rest s).seqTc = s.seqTc := rfl
@[simp] theorem openStep_seqLd (who : Agent) (rest : List Slot) : (openStep who rest s).seqLd = s.seqLd := rfl
@[simp] theorem openStep_b1 (who : Agent) (rest : List Slot) : (openStep who rest s).b1 = s.b1 := rfl
@[simp] theorem openStep_b2 (who : Agent) (rest : List Slot) : (openStep who rest s).b2 = s.b2 := rfl
@[simp] theorem openStep_out (who : Agent) (rest : List Slot) : (openStep who rest s).out = s.out := rfl
@[simp] theorem openStep_outLen (who : Agent) (rest : List Slot) : (openStep who rest s).outLen = s.outLen := rfl
@[simp] theorem openStep_outValid (who : Agent) (rest : List Slot) : (openStep who rest s).outValid = s.outValid := rfl
@[simp] theorem openStep_lines (who : Agent) (rest : List Slot) : (openStep who rest s).lines = s.lines := rfl
@[simp] theorem openStep_ctrl (who : Agent) (rest : List Slot) : (openStep who rest s).ctrl = s.ctrl := rfl
@[simp] theorem openStep_agent (who : Agent) (rest : List Slot) : (openStep who rest s).agent = who := rfl
@[simp] theorem openStep_result (who : Agent) (rest : List Slot) : (openStep who rest s).result = s.result := rfl
@[simp] theorem openStep_trace (who : Agent) (rest : List Slot) : (openStep who rest s).trace = s.trace := rfl
@[simp] theorem openStep_schedule (who : Agent) (rest : List Slot) : (openStep who rest s).schedule = rest := rfl
@[simp] theorem openStep_draws (who : Agent) (rest : List Slot) : (openStep who rest s).draws = s.draws := rfl

/-! ### startTimer -/

@[simp] theorem startTimer_cfg (source : ClockSource) : (startTimer source s).cfg = s.cfg := rfl
@[simp] theorem startTimer_cnt (source : ClockSource) : (startTimer source s).cnt = 0#16 := rfl
@[simp] theorem startTimer_tally (source : ClockSource) : (startTimer source s).tally = 0 := rfl
@[simp] theorem startTimer_tL (source : ClockSource) : (startTimer source s).tL = s.tL := rfl
@[simp] theorem startTimer_rL (source : ClockSource) : (startTimer source s).rL = s.rL := rfl
@[simp] theorem startTimer_pL (source : ClockSource) : (startTimer source s).pL = s.pL := rfl
@[simp] theorem startTimer_ovf (source : ClockSource) : (startTimer source s).ovf = false := rfl
@[simp] theorem startTimer_run (source : ClockSource) : (startTimer source s).run = true := rfl
@[simp] theorem startTimer_clksel (source : ClockSource) : (startTimer source s).clksel = source := rfl
@[simp] theorem startTimer_ovie (source : ClockSource) : (startTimer source s).ovie = true := rfl
@[simp] theorem startTimer_mask (source : ClockSource) : (startTimer source s).mask = s.mask := rfl
@[simp] theorem startTimer_seqTc (source : ClockSource) : (startTimer source s).seqTc = s.seqTc := rfl
@[simp] theorem startTimer_seqLd (source : ClockSource) : (startTimer source s).seqLd = s.seqLd := rfl
@[simp] theorem startTimer_b1 (source : ClockSource) : (startTimer source s).b1 = s.b1 := rfl
@[simp] theorem startTimer_b2 (source : ClockSource) : (startTimer source s).b2 = s.b2 := rfl
@[simp] theorem startTimer_out (source : ClockSource) : (startTimer source s).out = s.out := rfl
@[simp] theorem startTimer_outLen (source : ClockSource) : (startTimer source s).outLen = s.outLen := rfl
@[simp] theorem startTimer_outValid (source : ClockSource) : (startTimer source s).outValid = s.outValid := rfl
@[simp] theorem startTimer_lines (source : ClockSource) : (startTimer source s).lines = s.lines := rfl
@[simp] theorem startTimer_ctrl (source : ClockSource) : (startTimer source s).ctrl = s.ctrl := rfl
@[simp] theorem startTimer_agent (source : ClockSource) : (startTimer source s).agent = s.agent := rfl
@[simp] theorem startTimer_result (source : ClockSource) : (startTimer source s).result = s.result := rfl
@[simp] theorem startTimer_trace (source : ClockSource) : (startTimer source s).trace = s.trace := rfl
@[simp] theorem startTimer_schedule (source : ClockSource) : (startTimer source s).schedule = s.schedule := rfl
@[simp] theorem startTimer_draws (source : ClockSource) : (startTimer source s).draws = s.draws := rfl

/-! ### countTick -/

@[simp] theorem countTick_cfg : (countTick s).cfg = s.cfg := rfl
@[simp] theorem countTick_cnt : (countTick s).cnt = s.cnt + 1#16 := rfl
@[simp] theorem countTick_tally : (countTick s).tally = s.tally := rfl
@[simp] theorem countTick_tL : (countTick s).tL = s.tL := rfl
@[simp] theorem countTick_rL : (countTick s).rL = s.rL := rfl
@[simp] theorem countTick_pL : (countTick s).pL = s.pL := rfl
@[simp] theorem countTick_ovf : (countTick s).ovf = ovfAfterTick s.cnt s.ovf := rfl
@[simp] theorem countTick_run : (countTick s).run = s.run := rfl
@[simp] theorem countTick_clksel : (countTick s).clksel = s.clksel := rfl
@[simp] theorem countTick_ovie : (countTick s).ovie = s.ovie := rfl
@[simp] theorem countTick_mask : (countTick s).mask = s.mask := rfl
@[simp] theorem countTick_seqTc : (countTick s).seqTc = s.seqTc := rfl
@[simp] theorem countTick_seqLd : (countTick s).seqLd = s.seqLd := rfl
@[simp] theorem countTick_b1 : (countTick s).b1 = s.b1 := rfl
@[simp] theorem countTick_b2 : (countTick s).b2 = s.b2 := rfl
@[simp] theorem countTick_out : (countTick s).out = s.out := rfl
@[simp] theorem countTick_outLen : (countTick s).outLen = s.outLen := rfl
@[simp] theorem countTick_outValid : (countTick s).outValid = s.outValid := rfl
@[simp] theorem countTick_lines : (countTick s).lines = s.lines := rfl
@[simp] theorem countTick_ctrl : (countTick s).ctrl = s.ctrl := rfl
@[simp] theorem countTick_agent : (countTick s).agent = s.agent := rfl
@[simp] theorem countTick_result : (countTick s).result = s.result := rfl
@[simp] theorem countTick_trace : (countTick s).trace = s.trace := rfl
@[simp] theorem countTick_schedule : (countTick s).schedule = s.schedule := rfl
@[simp] theorem countTick_draws : (countTick s).draws = s.draws := rfl

/-! ### takeOverflow -/

@[simp] theorem takeOverflow_cfg : (takeOverflow s).cfg = s.cfg := rfl
@[simp] theorem takeOverflow_cnt : (takeOverflow s).cnt = s.cnt := rfl
@[simp] theorem takeOverflow_tally : (takeOverflow s).tally = (s.tally + 1) % 2 ^ s.cfg.tallyWidth := rfl
@[simp] theorem takeOverflow_tL : (takeOverflow s).tL = s.tL := rfl
@[simp] theorem takeOverflow_rL : (takeOverflow s).rL = s.rL := rfl
@[simp] theorem takeOverflow_pL : (takeOverflow s).pL = s.pL := rfl
@[simp] theorem takeOverflow_ovf : (takeOverflow s).ovf = false := rfl
@[simp] theorem takeOverflow_run : (takeOverflow s).run = s.run := rfl
@[simp] theorem takeOverflow_clksel : (takeOverflow s).clksel = s.clksel := rfl
@[simp] theorem takeOverflow_ovie : (takeOverflow s).ovie = s.ovie := rfl
@[simp] theorem takeOverflow_mask : (takeOverflow s).mask = false := rfl
@[simp] theorem takeOverflow_seqTc : (takeOverflow s).seqTc = s.seqTc := rfl
@[simp] theorem takeOverflow_seqLd : (takeOverflow s).seqLd = s.seqLd := rfl
@[simp] theorem takeOverflow_b1 : (takeOverflow s).b1 = s.b1 := rfl
@[simp] theorem takeOverflow_b2 : (takeOverflow s).b2 = s.b2 := rfl
@[simp] theorem takeOverflow_out : (takeOverflow s).out = s.out := rfl
@[simp] theorem takeOverflow_outLen : (takeOverflow s).outLen = s.outLen := rfl
@[simp] theorem takeOverflow_outValid : (takeOverflow s).outValid = s.outValid := rfl
@[simp] theorem takeOverflow_lines : (takeOverflow s).lines = s.lines := rfl
@[simp] theorem takeOverflow_ctrl : (takeOverflow s).ctrl = s.ctrl := rfl
@[simp] theorem takeOverflow_agent : (takeOverflow s).agent = s.agent := rfl
@[simp] theorem takeOverflow_result : (takeOverflow s).result = s.result := rfl
@[simp] theorem takeOverflow_trace : (takeOverflow s).trace = s.trace := rfl
@[simp] theorem takeOverflow_schedule : (takeOverflow s).schedule = s.schedule := rfl
@[simp] theorem takeOverflow_draws : (takeOverflow s).draws = s.draws := rfl

end Sys2Proof.Machine
end

