-- ==== Sys2Proof/Laws/Peers.lean ====
section
/-! SUPPORT. The peers' reaction to the bus: each shared operation changes the controller and the draw counter and
nothing else of the block, and keeps DDRAM in canonical form. -/

namespace Sys2Proof.Machine

/-- The states that differ in the controller and the draw counter alone. -/
def SamePeersApart (s t : State) : Prop := t = { s with ctrl := t.ctrl, draws := t.draws }

theorem SamePeersApart.refl (s : State) : SamePeersApart s s := rfl

theorem SamePeersApart.trans {s t u : State} (h : SamePeersApart s t) (k : SamePeersApart t u) : SamePeersApart s u := by
  unfold SamePeersApart at *
  rw [k, h]

theorem drawController_peers (s : State) : SamePeersApart s (drawController s) := rfl

theorem drawContents_peers (s : State) : SamePeersApart s (drawContents s) := rfl

theorem advanceAddress_peers (s : State) : SamePeersApart s (advanceAddress s) := by
  unfold advanceAddress
  split <;> rfl

theorem controllerCommand_peers (c : Option Command) (s : State) : SamePeersApart s (controllerCommand c s) := by
  unfold controllerCommand
  split
  all_goals first
    | rfl
    | exact SamePeersApart.trans (t := { s with ctrl := _ }) rfl (advanceAddress_peers _)

theorem latchNibble_peers (rs : Bool) (nib : Nibble) (s : State) : SamePeersApart s (latchNibble rs nib s) := by
  unfold latchNibble
  split
  · split <;> rfl
  · split
    · rfl
    · split
      · rfl
      · exact SamePeersApart.trans (t := { s with ctrl := _ }) rfl (controllerCommand_peers _ _)
  · rfl

theorem controllerEdge_peers (was now : Byte) (s : State) : SamePeersApart s (controllerEdge was now s) := by
  unfold controllerEdge
  split
  · split
    · split
      · split <;> rfl
      · exact latchNibble_peers _ _ _
    · rfl
  · rfl

/-! ### The canonical form of DDRAM -/

theorem freeController_wf (n : Nat) : Memory.wf (freeController n).ddram :=
  Memory.ofBytes_wf (fun a => Config.freeByte n (16 + a))

theorem advanceAddress_ddram (s : State) : (advanceAddress s).ctrl.ddram = s.ctrl.ddram := by
  unfold advanceAddress
  split <;> rfl

theorem controllerCommand_wf (c : Option Command) (s : State) (h : Memory.wf s.ctrl.ddram) :
    Memory.wf (controllerCommand c s).ctrl.ddram := by
  unfold controllerCommand
  split
  case h_1 => exact Memory.nil_wf
  case h_8 =>
    rw [advanceAddress_ddram]
    exact Memory.write_wf _ _ _ (Memory.address_lt _) h
  case h_9 => exact freeController_wf _
  all_goals exact h

theorem latchNibble_wf (rs : Bool) (nib : Nibble) (s : State) (h : Memory.wf s.ctrl.ddram) :
    Memory.wf (latchNibble rs nib s).ctrl.ddram := by
  unfold latchNibble
  split
  · split
    · exact h
    · exact freeController_wf _
  · split
    · exact freeController_wf _
    · split
      · exact h
      · exact controllerCommand_wf _ _ h
  · exact freeController_wf _

theorem controllerEdge_wf (was now : Byte) (s : State) (h : Memory.wf s.ctrl.ddram) :
    Memory.wf (controllerEdge was now s).ctrl.ddram := by
  unfold controllerEdge
  split
  · split
    · split
      · split
        · exact freeController_wf _
        · exact h
      · exact latchNibble_wf _ _ _ h
    · exact freeController_wf _
  · exact h

end Sys2Proof.Machine
end

