-- ==== Sys2Proof/Laws/Bus.lean ====
section
/-! SUPPORT. The bus primitives and the unit LD host steps: each changes the fields of unit LD and the peers, and nothing
else; each emits at most one event, of `LCD_ADDR`. -/

namespace Sys2Proof.Machine

/-- The states that differ in unit LD, the peers, the result and the trace alone. -/
def SameOutsideLd (s t : State) : Prop :=
  t = { s with
    seqLd := t.seqLd, b1 := t.b1, b2 := t.b2, lines := t.lines, ctrl := t.ctrl, result := t.result, trace := t.trace
    draws := t.draws }

theorem SameOutsideLd.refl (s : State) : SameOutsideLd s s := rfl

theorem SameOutsideLd.trans {s t u : State} (h : SameOutsideLd s t) (k : SameOutsideLd t u) : SameOutsideLd s u := by
  unfold SameOutsideLd at *
  rw [k, h]

theorem SamePeersApart.outsideLd {s t : State} (h : SamePeersApart s t) : SameOutsideLd s t := by
  unfold SamePeersApart SameOutsideLd at *
  rw [h]

/-- The one event a step adds, with the device address of rule R43. -/
def Event.onBus (cfg : Config) : Event → Prop
  | .wrote a _ => a = cfg.lcdAddr
  | .read a _ => a = cfg.lcdAddr
  | .writeFailed a _ => a = cfg.lcdAddr
  | .readFailed a => a = cfg.lcdAddr
  | .delay _ => True

/-- `t` has the events of `s` and one more. -/
def OneEvent (s t : State) : Prop := ∃ e, t.trace = s.trace ++ [e] ∧ e.onBus s.cfg

/-! ### Bus primitives -/

theorem busWrite_outside (b : Byte) (ans : Answer) (s : State) : SameOutsideLd s (busWrite b ans s) := by
  cases ans with
  | ok v =>
    have h := controllerEdge_peers s.lines b s
    unfold SamePeersApart at h
    unfold SameOutsideLd
    simp only [busWrite, emit]
    rw [h]
  | fail l =>
    unfold SameOutsideLd
    simp only [busWrite, emit, drawController]
    split <;> rfl

theorem busWrite_event (b : Byte) (ans : Answer) (s : State) : OneEvent s (busWrite b ans s) := by
  cases ans with
  | ok v =>
    refine ⟨.wrote s.cfg.lcdAddr b, ?_, rfl⟩
    have h := controllerEdge_peers s.lines b s
    unfold SamePeersApart at h
    simp only [busWrite, emit]
    rw [h]
  | fail l =>
    refine ⟨.writeFailed s.cfg.lcdAddr b, ?_, rfl⟩
    simp only [busWrite, emit, drawController]
    split <;> rfl

theorem busWrite_wf (b : Byte) (ans : Answer) (s : State) (h : Memory.wf s.ctrl.ddram) :
    Memory.wf (busWrite b ans s).ctrl.ddram := by
  cases ans with
  | ok v => exact controllerEdge_wf _ _ _ h
  | fail l =>
    simp only [busWrite, emit]
    split
    · exact h
    · exact freeController_wf _

theorem busWrite_seqLd (b : Byte) (ans : Answer) (s : State) : (busWrite b ans s).seqLd = s.seqLd := by
  cases ans with
  | ok v =>
    have h := controllerEdge_peers s.lines b s
    unfold SamePeersApart at h
    simp only [busWrite, emit]
    rw [h]
  | fail l =>
    simp only [busWrite, emit, drawController]
    split <;> rfl

/-- The lines after a write: the byte on `Ok`, what the oracle leaves on `Fail` (rules R41, R185). -/
theorem busWrite_lines (b : Byte) (ans : Answer) (s : State) :
    (busWrite b ans s).lines = match ans with | .ok _ => b | .fail l => l := by
  cases ans <;> rfl

/-- What a bus read does, answered or failed: one event, and nothing else (rule R56; a failed one, log entry 22). -/
theorem busRead_eq (ans : Answer) (s : State) :
    busRead ans s = emit (match ans with
      | .ok v => .read s.cfg.lcdAddr (busReadByte v s)
      | .fail _ => .readFailed s.cfg.lcdAddr) s := by
  cases ans <;> rfl

theorem busRead_outside (ans : Answer) (s : State) : SameOutsideLd s (busRead ans s) := by
  rw [busRead_eq]; rfl

theorem busRead_event (ans : Answer) (s : State) : OneEvent s (busRead ans s) := by
  cases ans <;> exact ⟨_, rfl, rfl⟩

@[simp] theorem busRead_ctrl (ans : Answer) (s : State) : (busRead ans s).ctrl = s.ctrl := by
  rw [busRead_eq]; rfl

@[simp] theorem busRead_lines (ans : Answer) (s : State) : (busRead ans s).lines = s.lines := by
  rw [busRead_eq]; rfl

/-! ### What follows a transfer: the sequencer and the result, and at the end of a busy wait the controller's BUSY -/

/-- The states that differ in the sequencer of unit LD and the result alone. -/
def SameButSequencer (s t : State) : Prop := t = { s with seqLd := t.seqLd, result := t.result }

theorem afterCommand_frame (r : LdRun) (s : State) : SameButSequencer s (afterCommand r s) := by
  unfold afterCommand; split <;> rfl

theorem afterSend_frame (r : LdRun) (c : Command) (s : State) : SameButSequencer s (afterSend r c s) := by
  unfold afterSend
  split
  · rfl
  · split <;> rfl

theorem afterPhase_frame (r : LdRun) (c : Command) (g : Nat) (ph : Phase) (s : State) :
    SameButSequencer s (afterPhase r c g ph s) := by
  unfold afterPhase
  split
  · rfl
  · rfl
  · split
    · rfl
    · exact afterSend_frame _ _ _

theorem SameButSequencer.outsideLd {s t : State} (h : SameButSequencer s t) : SameOutsideLd s t := by
  unfold SameButSequencer SameOutsideLd at *
  rw [h]

theorem SameButSequencer.trace {s t : State} (h : SameButSequencer s t) : t.trace = s.trace := by
  unfold SameButSequencer at h; rw [h]

theorem SameButSequencer.ctrl {s t : State} (h : SameButSequencer s t) : t.ctrl = s.ctrl := by
  unfold SameButSequencer at h; rw [h]

theorem SameButSequencer.lines {s t : State} (h : SameButSequencer s t) : t.lines = s.lines := by
  unfold SameButSequencer at h; rw [h]

/-- The states that differ in the sequencer of unit LD, the result and the controller's BUSY alone. -/
def SameButWait (s t : State) : Prop :=
  t = { s with seqLd := t.seqLd, result := t.result, ctrl := { s.ctrl with busy := t.ctrl.busy } }

theorem SameButSequencer.wait {s t : State} (h : SameButSequencer s t) : SameButWait s t := by
  unfold SameButSequencer SameButWait at *
  rw [h]

theorem SameButWait.outsideLd {s t : State} (h : SameButWait s t) : SameOutsideLd s t := by
  unfold SameButWait SameOutsideLd at *
  rw [h]

theorem SameButWait.trace {s t : State} (h : SameButWait s t) : t.trace = s.trace := by
  unfold SameButWait at h; rw [h]

theorem SameButWait.ddram {s t : State} (h : SameButWait s t) : t.ctrl.ddram = s.ctrl.ddram := by
  unfold SameButWait at h; rw [h]

theorem SameButWait.lines {s t : State} (h : SameButWait s t) : t.lines = s.lines := by
  unfold SameButWait at h; rw [h]

theorem afterStatus_frame (r : LdRun) (s : State) : SameButWait s (afterStatus r s) := by
  unfold afterStatus
  split
  · rfl
  · split
    · unfold afterCommand
      split <;> rfl
    · split
      · split <;> rfl
      · rfl

/-- A busy wait whose status byte says not busy: the controller has completed its command, and the next command starts or
the operation returns (rules R62, R167). -/
theorem afterStatus_ends (r : LdRun) (s : State) (hop : r.op ≠ .status)
    (hb : busyOf (statusByte s.b1 s.b2) = false) : afterStatus r s = afterCommand r (controllerReady s) := by
  unfold afterStatus
  split
  · rename_i h; exact absurd h hop
  · rw [if_pos hb]

theorem afterProbe_frame (r : LdRun) (k : Half) (ph : Phase) (s : State) : SameButWait s (afterProbe r k ph s) := by
  unfold afterProbe
  split
  · rfl
  · rfl
  · split
    · rfl
    · exact afterStatus_frame _ _

theorem phaseStep_frame (r : LdRun) (c : Command) (nib : Nibble) (g : Nat) (ph : Phase) (ans : Answer) (s : State) :
    SameButSequencer (busWrite (pack s.cfg nib c.rs false ph.enable) ans s) (phaseStep r c nib g ph ans s) := by
  unfold phaseStep afterWrite
  split
  · dsimp only
    split
    · rfl
    · exact afterPhase_frame _ _ _ _ _
  · rfl

theorem probeStep_frame (r : LdRun) (k : Half) (ph : Phase) (ans : Answer) (s : State) :
    SameButWait (busWrite (probeByte s.cfg ph) ans s) (probeStep r k ph ans s) := by
  unfold probeStep afterWrite
  split
  · exact afterProbe_frame _ _ _ _
  · rfl

theorem readStep_frame (r : LdRun) (k : Half) (ans : Answer) (s : State) :
    readStep r k ans s =
      { busRead ans s with
        seqLd := (readStep r k ans s).seqLd, result := (readStep r k ans s).result
        b1 := (readStep r k ans s).b1, b2 := (readStep r k ans s).b2 } := by
  unfold readStep
  cases ans with
  | ok v => cases k <;> rfl
  | fail l => rfl

/-- One inversion lemma for a host step of unit LD: what every `ldStep` that answers a next state does. -/
theorem ldStep_next {r : LdRun} {ans : Answer} {s t : State} (h : ldStep r ans s = .next t) :
    SameOutsideLd s t ∧ OneEvent s t ∧ (Memory.wf s.ctrl.ddram → Memory.wf t.ctrl.ddram) := by
  have delayed : ∀ us u, SameButSequencer (delay us s) u →
      SameOutsideLd s u ∧ OneEvent s u ∧ (Memory.wf s.ctrl.ddram → Memory.wf u.ctrl.ddram) := by
    intro us u hu
    exact ⟨SameOutsideLd.trans (t := delay us s) rfl hu.outsideLd, ⟨.delay us, hu.trace, trivial⟩, fun hw => hu.ctrl ▸ hw⟩
  have written : ∀ b u, SameButWait (busWrite b ans s) u →
      SameOutsideLd s u ∧ OneEvent s u ∧ (Memory.wf s.ctrl.ddram → Memory.wf u.ctrl.ddram) := by
    intro b u hu
    refine ⟨(busWrite_outside b ans s).trans hu.outsideLd, ?_, fun hw => hu.ddram ▸ busWrite_wf b ans s hw⟩
    obtain ⟨e, he, hb⟩ := busWrite_event b ans s
    exact ⟨e, hu.trace.trans he, hb⟩
  unfold ldStep at h
  split at h
  · split at h
    · cases h
    · cases h; exact written _ _ (phaseStep_frame _ _ _ _ _ _ _).wait
  · split at h
    · cases h
    · cases h; exact delayed _ _ (afterPhase_frame _ _ _ _ _)
  · cases h; exact written _ _ (probeStep_frame _ _ _ _ _)
  · rename_i k _
    cases h
    have hf := readStep_frame r k ans s
    refine ⟨(busRead_outside ans s).trans ?_, ?_, fun hw => ?_⟩
    · unfold SameOutsideLd; rw [hf]
    · obtain ⟨e, he, hb⟩ := busRead_event ans s
      exact ⟨e, by rw [hf]; exact he, hb⟩
    · rw [hf]; simpa using hw
  · cases h; exact delayed _ _ (afterCommand_frame _ _)

/-- The micro-steps of a sample change unit TC's latches, `MASK`, `SEQ_TC` and the result alone. -/
theorem sampleStep_frame (s : State) :
    sampleStep s =
      { s with
        tL := (sampleStep s).tL, rL := (sampleStep s).rL, pL := (sampleStep s).pL, mask := (sampleStep s).mask
        seqTc := (sampleStep s).seqTc, result := (sampleStep s).result } := by
  unfold sampleStep
  split <;> rfl

/-- What a host step can be: nothing in flight, a micro-step of a sample, or a step of unit LD. -/
theorem hostStep_cases {ans : Answer} {s t : State} (h : hostStep ans s = .next t) :
    (s.seqTc = .idle ∧ s.seqLd = .idle ∧ t = s) ∨
    (s.seqTc ≠ .idle ∧ t = sampleStep s) ∨
    (s.seqTc = .idle ∧ ∃ r, s.seqLd = .active r ∧ ldStep r ans s = .next t) := by
  unfold hostStep at h
  split at h
  · rename_i h1
    split at h
    · rename_i h2
      cases h
      exact Or.inl ⟨h1, h2, rfl⟩
    · rename_i r h2
      exact Or.inr (Or.inr ⟨h1, r, h2, h⟩)
  · rename_i h1
    cases h
    exact Or.inr (Or.inl ⟨h1, rfl⟩)

end Sys2Proof.Machine
end

