-- ==== Sys2Proof/Laws/PerInstr.lean ====
section
/-! SUPPORT. One statement about every instruction as syntax: what the encoder writes for it is in the format of its row
of spec/opcode_table.json, and its selector byte or its command word meets that row's match under its mask. -/

namespace Sys2Proof.Laws.Selector

/-- A row of spec/opcode_table.json: its format, its match and its mask. -/
structure Row where
  format : Format
  pattern : Nat
  mask : Nat
  deriving DecidableEq, Repr

/-- The row of an instruction, copied from the table (rules R66, R69). -/
def row : Instr → Row
  | .tcStart _ => ⟨.op, 0x10, 0xFF⟩
  | .tcSample => ⟨.op, 0x11, 0xFF⟩
  | .tcTick => ⟨.op, 0x1E, 0xFF⟩
  | .tcOvf => ⟨.op, 0x1F, 0xFF⟩
  | .fmtFormat _ _ _ => ⟨.op, 0x20, 0xFF⟩
  | .ldInit => ⟨.op, 0x30, 0xFF⟩
  | .ldClear => ⟨.op, 0x31, 0xFF⟩
  | .ldMove _ => ⟨.op, 0x32, 0xFF⟩
  | .ldWrite _ => ⟨.op, 0x33, 0xFF⟩
  | .ldCmd _ => ⟨.op, 0x38, 0xFF⟩
  | .ldStatus => ⟨.op, 0x39, 0xFF⟩
  | .clearDisplay => ⟨.cw, 0x001, 0x3FF⟩
  | .returnHome => ⟨.cw, 0x002, 0x3FF⟩
  | .entryModeSet _ _ => ⟨.cw, 0x004, 0x3FC⟩
  | .displayControls _ _ _ => ⟨.cw, 0x008, 0x3F8⟩
  | .cursorDisplayShift _ _ => ⟨.cw, 0x010, 0x3F3⟩
  | .functionSet _ _ _ => ⟨.cw, 0x020, 0x3E3⟩
  | .setDDRAMAddress _ => ⟨.cw, 0x080, 0x380⟩
  | .writeData _ => ⟨.cw, 0x100, 0x300⟩
  | .statusRead _ => ⟨.cw, 0x200, 0x300⟩

/-- The selector of a request in format OP, the command word of one in format CW. -/
def headWord : Format × List Byte → Nat
  | (.op, sel :: _) => sel.toNat
  | (.cw, lo :: hi :: _) => hi.toNat * 256 + lo.toNat
  | _ => 0

/-- The encoding of `i`, under the table's own layout of FunctionSet, meets its row. -/
def Statement (i : Instr) : Prop :=
  (encode .hitachi i).1 = (row i).format ∧ headWord (encode .hitachi i) &&& (row i).mask = (row i).pattern

/-- A request whose first byte meets its row's match, whatever follows it. -/
theorem selectorByte (sel : Byte) (rest : List Byte) (h : sel.toNat &&& 0xFF = sel.toNat) :
    headWord (.op, sel :: rest) &&& 0xFF = sel.toNat := h

theorem tcStart (source : ClockSource) : Statement (.tcStart source) := by cases source <;> exact ⟨rfl, rfl⟩
theorem tcSample : Statement .tcSample := ⟨rfl, rfl⟩
theorem tcTick : Statement .tcTick := ⟨rfl, rfl⟩
theorem tcOvf : Statement .tcOvf := ⟨rfl, rfl⟩
theorem fmtFormat (v n m : Nat) : Statement (.fmtFormat v n m) := ⟨rfl, selectorByte 0x20#8 _ rfl⟩
theorem ldInit : Statement .ldInit := ⟨rfl, rfl⟩
theorem ldClear : Statement .ldClear := ⟨rfl, rfl⟩
theorem ldMove (position : Byte) : Statement (.ldMove position) := ⟨rfl, selectorByte 0x32#8 _ rfl⟩
theorem ldWrite (text : List Byte) : Statement (.ldWrite text) := ⟨rfl, selectorByte 0x33#8 _ rfl⟩
theorem ldCmd (word : CommandWord) : Statement (.ldCmd word) := ⟨rfl, selectorByte 0x38#8 _ rfl⟩
theorem ldStatus : Statement .ldStatus := ⟨rfl, rfl⟩
theorem clearDisplay : Statement .clearDisplay := ⟨rfl, rfl⟩
theorem returnHome : Statement .returnHome := ⟨rfl, rfl⟩

theorem entryModeSet (incrementCursor shiftDisplay : Bool) :
    Statement (.entryModeSet incrementCursor shiftDisplay) := by
  cases incrementCursor <;> cases shiftDisplay <;> exact ⟨rfl, rfl⟩

theorem displayControls (displayOn cursorOn cursorBlink : Bool) :
    Statement (.displayControls displayOn cursorOn cursorBlink) := by
  cases displayOn <;> cases cursorOn <;> cases cursorBlink <;> exact ⟨rfl, rfl⟩

theorem cursorDisplayShift (shift direction : Bool) : Statement (.cursorDisplayShift shift direction) := by
  cases shift <;> cases direction <;> exact ⟨rfl, rfl⟩

theorem functionSet (eightBitMode twoLineMode bigFonts : Bool) :
    Statement (.functionSet eightBitMode twoLineMode bigFonts) := by
  cases eightBitMode <;> cases twoLineMode <;> cases bigFonts <;> exact ⟨rfl, rfl⟩

/-- The seven address bits do not reach the row's fixed bits. -/
theorem addressWord (a : BitVec 7) : headWord (.cw, wordBytes (0b0#1 ++ 0b0#1 ++ (0b1#1 ++ a))) &&& 0x380 = 0x080 := by
  revert a
  decide

theorem setDDRAMAddress (address : Nat) : Statement (.setDDRAMAddress address) :=
  ⟨rfl, addressWord (BitVec.ofNat 7 address)⟩

/-- The eight payload bits do not reach the row's fixed bits. -/
theorem dataWord (b : Byte) : headWord (.cw, wordBytes (0b0#1 ++ 0b1#1 ++ b)) &&& 0x300 = 0x100 := by
  revert b
  decide

theorem writeData (byte : Byte) : Statement (.writeData byte) := ⟨rfl, dataWord byte⟩

/-- The bits of a status read's word that are not sent do not reach the row's fixed bits. -/
theorem statusWord (u : Byte) : headWord (.cw, wordBytes (0b10#2 ++ u)) &&& 0x300 = 0x200 := by
  revert u
  decide

theorem statusRead (unused : Byte) : Statement (.statusRead unused) := ⟨rfl, statusWord unused⟩

end Sys2Proof.Laws.Selector
end

