-- ==== Sys2Proof/Laws/Step.lean ====
section
/-! SUPPORT. What one step can do: the inversion lemmas of the admission, of `exec` and of `step`. -/

namespace Sys2Proof.Machine

/-! ### Admission -/

theorem inFlight_eq_false {s : State} : inFlight s = false ↔ s.seqTc = .idle ∧ s.seqLd = .idle := by
  unfold inFlight
  simp [bne]

theorem hostOperation_next {s t : State} {go : Outcome} (h : hostOperation s go = .next t) :
    HostFree s ∧ go = .next t := by
  unfold hostOperation at h
  split at h
  · cases h
  · rename_i h1
    split at h
    · cases h
    · rename_i h2
      have := inFlight_eq_false.1 (by simpa using h2)
      exact ⟨⟨by simpa using h1, this.1, this.2⟩, h⟩

theorem hostOperation_free {s : State} (go : Outcome) (h : HostFree s) : hostOperation s go = go := by
  obtain ⟨h1, h2, h3⟩ := h
  simp [hostOperation, inFlight, h1, h2, h3]

theorem eventOf_next {who : Agent} {s t : State} {go : Outcome} (h : eventOf who s go = .next t) :
    s.agent = who ∧ go = .next t := by
  unfold eventOf at h
  split at h
  · cases h
  · rename_i h1
    exact ⟨by simpa using h1, h⟩

theorem eventOf_agent {who : Agent} {s : State} (go : Outcome) (h : s.agent = who) : eventOf who s go = go := by
  simp [eventOf, h]

/-! ### What an instruction can do -/

/-- The instructions of unit LD (rules R5, R66): every row but the four of unit TC and the one of unit FMT. -/
def ofUnitLd : Instr → Bool
  | .tcStart _ => false
  | .tcSample => false
  | .tcTick => false
  | .tcOvf => false
  | .fmtFormat _ _ _ => false
  | _ => true

/-- One inversion lemma for `exec`: an instruction of unit LD begins an operation or returns at once. -/
inductive ExecDone (s : State) : Instr → State → Prop
  | start (src : ClockSource) : HostFree s →
      ExecDone s (.tcStart src) (returnResult .ok (leaveCritical (startTimer src (enterCritical s))))
  | sample : HostFree s → s.run = true → ExecDone s .tcSample { s with seqTc := .s1, result := none }
  | tick : s.agent = .tickSource → ExecDone s .tcTick (if s.run then countTick s else s)
  | overflow : s.agent = .handler → ExecDone s .tcOvf (if handlerEnabled s then takeOverflow s else s)
  | format (v n m : Nat) : HostFree s → v < 2 ^ s.cfg.fmtWidth → ExecDone s (.fmtFormat v n m) (formatStep v n m s)
  | begin (i : Instr) (op : LdOp) : ofUnitLd i = true → HostFree s → (LdRun.start op).placed s.cfg = true →
      ExecDone s i (beginLd op s)
  | atOnce (i : Instr) (r : Result) : ofUnitLd i = true → HostFree s → ExecDone s i (returnResult r s)

/-- Every nibble list has a first nibble. -/
theorem sentNibbles_head (cfg : Config) (c : Command) : ∃ nib, (sentNibbles cfg c)[0]? = some nib := by
  unfold sentNibbles
  split <;> exact ⟨_, rfl⟩

/-- An operation with a first command starts at a place it has. -/
theorem start_placed (cfg : Config) (op : LdOp) (c : Command) (h : (op.commands cfg)[0]? = some c) :
    (LdRun.start op).placed cfg = true := by
  obtain ⟨nib, hn⟩ := sentNibbles_head cfg c
  cases op with
  | status => rfl
  | _ => simp [LdRun.placed, LdRun.start, LdOp.firstPlace, LdRun.nibble, LdRun.command, h, hn]

theorem exec_next {i : Instr} {s t : State} (h : exec i s = .next t) : ExecDone s i t := by
  have send : ∀ c, ofUnitLd i = true → sendCommand c s = .next t → ExecDone s i t := by
    intro c hi hc
    obtain ⟨hf, hg⟩ := hostOperation_next hc
    cases hg
    exact .begin i _ hi hf (start_placed _ _ c rfl)
  cases i with
  | tcStart src => obtain ⟨hf, hg⟩ := hostOperation_next h; cases hg; exact .start src hf
  | tcSample =>
    obtain ⟨hf, hg⟩ := hostOperation_next h
    split at hg
    · rename_i hr; cases hg; exact .sample hf hr
    · cases hg
  | tcTick => obtain ⟨ha, hg⟩ := eventOf_next h; cases hg; exact .tick ha
  | tcOvf => obtain ⟨ha, hg⟩ := eventOf_next h; cases hg; exact .overflow ha
  | fmtFormat v n m =>
    obtain ⟨hf, hg⟩ := hostOperation_next h
    split at hg
    · rename_i hv; cases hg; exact .format v n m hf hv
    · cases hg
  | ldInit => obtain ⟨hf, hg⟩ := hostOperation_next h; cases hg; exact .begin _ _ rfl hf (start_placed _ _ _ rfl)
  | ldClear => obtain ⟨hf, hg⟩ := hostOperation_next h; cases hg; exact .begin _ _ rfl hf (start_placed _ _ _ rfl)
  | ldMove p =>
    obtain ⟨hf, hg⟩ := hostOperation_next h
    cases hg
    unfold moveStep
    split
    · exact .begin _ _ rfl hf (start_placed _ _ _ rfl)
    · split
      · exact .atOnce _ _ rfl hf
      · exact .atOnce _ _ rfl hf
  | ldWrite text =>
    obtain ⟨hf, hg⟩ := hostOperation_next h
    cases hg
    unfold writeStep
    split
    · exact .atOnce _ _ rfl hf
    · rename_i ht
      obtain ⟨b, l, hl⟩ := List.exists_cons_of_ne_nil ht
      exact .begin _ _ rfl hf (start_placed _ _ (.writeData b) (by simp [LdOp.commands, hl]))
  | ldCmd w =>
    obtain ⟨hf, hg⟩ := hostOperation_next h
    split at hg
    · cases hg; exact .begin _ _ rfl hf (start_placed _ _ _ rfl)
    · cases hg
  | ldStatus => obtain ⟨hf, hg⟩ := hostOperation_next h; cases hg; exact .begin _ _ rfl hf rfl
  | statusRead u => obtain ⟨hf, hg⟩ := hostOperation_next h; cases hg; exact .begin _ _ rfl hf rfl
  | clearDisplay => exact send _ rfl h
  | returnHome => exact send _ rfl h
  | entryModeSet a b => exact send _ rfl h
  | displayControls a b c => exact send _ rfl h
  | cursorDisplayShift a b => exact send _ rfl h
  | functionSet a b c => exact send _ rfl h
  | setDDRAMAddress a => exact send _ rfl h
  | writeData b => exact send _ rfl h

/-- The body of `FMT.FORMAT` changes the output string and the result alone (rules R46, R125). -/
theorem formatStep_frame (v n m : Nat) (s : State) :
    ∃ o l k r, formatStep v n m s = { s with out := o, outLen := l, outValid := k, result := r } := by
  unfold formatStep
  split
  · exact ⟨s.out, s.outLen, false, _, rfl⟩
  · split
    · exact ⟨s.out, s.outLen, false, _, rfl⟩
    · exact ⟨_, _, true, _, rfl⟩

/-- No instruction faults: what `exec` does not answer with a next state it refuses. -/
theorem exec_ne_fault (i : Instr) (s : State) (f : Fault) : exec i s ≠ .fault f := by
  have host : ∀ go : Outcome, go ≠ .fault f → hostOperation s go ≠ .fault f := by
    intro go h
    unfold hostOperation
    split
    · simp
    · split
      · simp
      · exact h
  have event : ∀ who (t : State), eventOf who s (.next t) ≠ .fault f := by
    intro who t
    unfold eventOf
    split <;> simp
  cases i
  case tcTick => exact event _ _
  case tcOvf => exact event _ _
  all_goals
    apply host
    first
      | (split <;> simp)
      | simp

/-! ### What a step can do -/

theorem closeStep_next {o : Outcome} {t : State} (h : closeStep o = .next t) :
    ∃ u, o = .next u ∧ t = resumeHost u := by
  cases o with
  | next u => cases h; exact ⟨u, rfl, rfl⟩
  | fault r => cases h
  | refused r => cases h

/-- One inversion lemma for `step`. -/
inductive StepDone (s : State) : State → Prop
  | idle : s.schedule = [] → StepDone s s
  | request (who : Agent) (fmt : Format) (bytes : List Byte) (rest : List Slot) (i : Instr) (tail : List Byte)
      (u : State) : s.schedule = .request who fmt bytes :: rest → fetch s fmt bytes = .ok i tail →
      exec i (openStep who rest s) = .next u → StepDone s (resumeHost u)
  | proceed (ans : Answer) (rest : List Slot) (u : State) : s.schedule = .proceed ans :: rest →
      hostStep ans (openStep .host rest s) = .next u → StepDone s (resumeHost u)
  | ready (rest : List Slot) : s.schedule = .ready :: rest →
      StepDone s (resumeHost (controllerReady (openStep .host rest s)))

theorem step_next {s t : State} (h : step s = .next t) : StepDone s t := by
  unfold step at h
  split at h
  · rename_i hs; cases h; exact .idle hs
  · rename_i who fmt bytes rest hs
    split at h
    · rename_i i tail hd
      obtain ⟨u, hu, rfl⟩ := closeStep_next h
      exact .request who fmt bytes rest i tail u hs hd hu
    · cases h
  · rename_i ans rest hs
    obtain ⟨u, hu, rfl⟩ := closeStep_next h
    exact .proceed ans rest u hs hu
  · rename_i rest hs
    cases h
    exact .ready rest hs

/-! ### Runs -/

theorem steps_add (j k : Nat) (s t : State) (h : steps j s = .next t) : steps (j + k) s = steps k t := by
  induction j generalizing s with
  | zero => cases h; simp
  | succ j ih =>
    rw [Nat.succ_add]
    simp only [steps] at h ⊢
    split at h
    · rename_i u hu; exact ih u h
    · cases h
    · cases h

/-- A run of this machine is a run of the host's interface to it. -/
theorem steps_eq_run (k : Nat) (s : State) : steps k s = Host.Core.run Sys2Proof.core k s := by
  induction k generalizing s with
  | zero => rfl
  | succ k ih =>
    have hc : Sys2Proof.core.step s = step s := rfl
    simp only [steps, Host.Core.run]
    rw [hc]
    cases step s with
    | next t => exact ih t
    | fault r => rfl
    | refused r => rfl

end Sys2Proof.Machine
end

