-- ==== Sys2Proof/Tests/Slice0.lean ====
section
/-! SUPPORT. Tests: one step each, on small states, the expected value from spec/95_test_vectors.md or from the rule
named; the decoding of a word written out from the spec for every constructor; an ill-formed term for each check of
WellFormed; and a witness for the hypotheses of every statement that has any. -/

namespace Sys2Proof.Tests

open Sys2Proof.Machine

/-! ### Small states -/

/-- The default parameters with a value for each one that rule R6 leaves open, so that events compare by evaluation. -/
def testConfig : Config :=
  { Config.default with tickHz := 1, lcdAddr := 0x27#7, tPhaseUs := 150, tLongUs := 2000 }

/-- The machine after reset under those parameters. -/
def base : State := { State.reset with cfg := testConfig }

/-- Unit TC running in the state written (TALLY, CNT, OVF) in section 2.1 of spec/95_test_vectors.md. -/
def counting (tally cnt : Nat) (ovf : Bool) : State :=
  { base with run := true, ovie := true, tally := tally, cnt := BitVec.ofNat 16 cnt, ovf := ovf }

/-- The controller in step, with the address counter at `ac`. -/
def inStep (ac : BitVec 7) : Controller :=
  { Controller.powerUp with mode := .four, ac := ac, incrementCursor := true }

/-- Unit LD in flight at a place of an operation. -/
def sending (op : LdOp) (place : Place) : State :=
  { base with seqLd := .active { op := op, cmd := 0, place := place, polls := 0, transfers := 0 } }

/-- A field of the next state; none for a fault or a refusal. -/
def after {α : Type} (f : State → α) : Outcome → Option α
  | .next s => some (f s)
  | .fault _ => none
  | .refused _ => none

/-- The triple of section 2.1. -/
def triple (s : State) : Nat × Nat × Bool := (s.tally, s.cnt.toNat, s.ovf)

/-! ### WellFormed refuses -/

theorem test_wellFormed_wide_operand : WellFormed testConfig (.fmtFormat (2 ^ 32) 2 3) = false := by decide
theorem test_wellFormed_no_command : WellFormed testConfig (.ldCmd 0x003#10) = false := by decide
theorem test_wellFormed_read_word : WellFormed testConfig (.ldCmd 0x200#10) = false := by decide
theorem test_wellFormed_wide_address : WellFormed testConfig (.setDDRAMAddress 128) = false := by decide

/-! ### Decoding: words written out from rules R66 and R69 to R78 -/

theorem test_decode_tcStart : decode .hitachi .op [0b00010000#8, 1#8] = .ok (.tcStart .external) [] := by decide
theorem test_decode_tcSample : decodeTableWord 8 0b00010001 = some .tcSample := by decide
theorem test_decode_tcTick : decodeTableWord 8 0b00011110 = some .tcTick := by decide
theorem test_decode_tcOvf : decodeTableWord 8 0b00011111 = some .tcOvf := by decide

/-- V = 12500 is `97 * 128 + 84`, so its two operand bytes are `84 + 128` and 97 (log entry 6). -/
theorem test_decode_fmtFormat :
    decode .hitachi .op [0b00100000#8, 212#8, 97#8, 2#8, 3#8] = .ok (.fmtFormat 12500 2 3) [] := by decide

theorem test_decode_ldInit : decodeTableWord 8 0b00110000 = some .ldInit := by decide
theorem test_decode_ldClear : decodeTableWord 8 0b00110001 = some .ldClear := by decide
theorem test_decode_ldMove : decode .hitachi .op [0b00110010#8, 16#8] = .ok (.ldMove 16#8) [] := by decide

theorem test_decode_ldWrite :
    decode .hitachi .op [0b00110011#8, 2#8, 0x37#8, 0x2E#8, 0xAA#8] = .ok (.ldWrite [0x37#8, 0x2E#8]) [0xAA#8] := by
  decide

/-- WriteData `A` as the operand of LD.CMD: the word 0b01_0100_0001. -/
theorem test_decode_ldCmd : decode .hitachi .op [0b00111000#8, 0x41#8, 0x01#8] = .ok (.ldCmd 0b0101000001#10) [] := by
  decide

theorem test_decode_ldStatus : decodeTableWord 8 0b00111001 = some .ldStatus := by decide
theorem test_decode_clearDisplay : decodeTableWord 16 0b0000000001 = some .clearDisplay := by decide
theorem test_decode_returnHome : decodeTableWord 16 0b0000000010 = some .returnHome := by decide
theorem test_decode_entryModeSet : decodeTableWord 16 0b0000000110 = some (.entryModeSet true false) := by decide

theorem test_decode_displayControls :
    decodeTableWord 16 0b0000001101 = some (.displayControls true false true) := by decide

theorem test_decode_cursorDisplayShift :
    decodeTableWord 16 0b0000011000 = some (.cursorDisplayShift true false) := by decide

theorem test_decode_functionSet : decodeTableWord 16 0b0000101000 = some (.functionSet false true false) := by decide

/-- The other two layouts of rule R76: DL, N, F = 0, 1, 0 is 0x24 under DROP_LEAD and 0x22 under DROP_TRAIL. -/
theorem test_decode_functionSet_layouts :
    decode .dropLead .cw [0x24#8, 0#8] = .ok (.functionSet false true false) [] ∧
    decode .dropTrail .cw [0x22#8, 0#8] = .ok (.functionSet false true false) [] := by decide

theorem test_decode_setDDRAMAddress : decodeTableWord 16 0b0011000000 = some (.setDDRAMAddress 0x40) := by decide
theorem test_decode_writeData : decodeTableWord 16 0b0101000001 = some (.writeData 0x41#8) := by decide
theorem test_decode_statusRead : decodeTableWord 16 0b1000000000 = some (.statusRead 0#8) := by decide

/-- Rules R67 and R88: a reserved selector, a word the block never emits, a read of the data register, a clock source
that is neither. -/
theorem test_decode_refusals :
    decode .hitachi .op [0x12#8] = .bad (.reservedSelector 0x12#8) ∧
    decode .hitachi .cw [0x03#8, 0#8] = .bad (.notACommand 0x003#10) ∧
    decode .hitachi .cw [0#8, 3#8] = .bad (.notACommand 0x300#10) ∧
    decode .hitachi .op [0x10#8, 2#8] = .bad .illegalOperand ∧
    decode .hitachi .op [0x33#8, 2#8, 0x37#8] = .bad .missingOperand := by decide

/-! ### Unit TC (spec/95_test_vectors.md section 2.1) -/

/-- ST-A. -/
theorem test_tcStart_external :
    after (fun s => (triple s, s.run, s.ovie, s.clksel, s.mask)) (exec (.tcStart .external) base) =
      some ((0, 0, false), true, true, .external, false) := by decide

/-- ST-B: a restart drops a pending overflow. -/
theorem test_tcStart_restart :
    after (fun s => (triple s, s.clksel)) (exec (.tcStart .internal) (counting 7 1234 true)) =
      some ((0, 0, false), .internal) := by decide

/-- TK-3 and TK-4: the wrap sets OVF, and leaves it set. -/
theorem test_tcTick_wrap :
    after triple (exec .tcTick { counting 0 65535 false with agent := .tickSource }) = some (0, 0, true) ∧
    after triple (exec .tcTick { counting 5 65535 true with agent := .tickSource }) = some (5, 0, true) := by decide

/-- TK-2: no wrap. -/
theorem test_tcTick_plain :
    after triple (exec .tcTick { counting 0 65534 false with agent := .tickSource }) = some (0, 65535, false) := by
  decide

/-- OV-1 and OV-2: the tally wraps at its width. -/
theorem test_tcOvf_taken :
    after triple (exec .tcOvf { counting 0 7 true with agent := .handler }) = some (1, 7, false) ∧
    after triple (exec .tcOvf { counting 65535 7 true with agent := .handler }) = some (0, 7, false) := by decide

/-- OV-3: masked. -/
theorem test_tcOvf_masked :
    after triple (exec .tcOvf { counting 0 7 true with agent := .handler, mask := true }) = some (0, 7, true) := by
  decide

/-- SM-0. -/
theorem test_tcSample_not_started : exec .tcSample base = .refused .notStarted := rfl

/-- TC-7 and TC-12, step S6 from the latches the vectors give. -/
theorem test_tcSample_result :
    after (fun s => s.result) (hostStep (.ok 0#8) { counting 0 0 true with seqTc := .s6, rL := 65535#16, pL := true }) =
      some (some (.tickCount 131071)) ∧
    after (fun s => s.result) (hostStep (.ok 0#8) { counting 65535 0 true with seqTc := .s6, tL := 65535, pL := true }) =
      some (some (.tickCount 0)) := by decide

/-! ### Unit FMT (section 2.2) -/

/-- FMT-18 and FMT-14: an inner zero is kept; the ones digit and the point are always there. -/
theorem test_fmtFormat_strings :
    formattedString 1000 2 2 = [0x31#8, 0x30#8, 0x2E#8, 0x30#8, 0x30#8] ∧
    formattedString 0 0 0 = [0x30#8, 0x2E#8] := by decide

/-- FMT-25, FMT-26 and FMT-7: the capacity met exactly, the capacity passed, the range passed. -/
theorem test_fmtFormat_limits :
    after (fun s => (s.result, s.outLen)) (exec (.fmtFormat 0 1 14) base) = some (some .ok, 16) ∧
    after (fun s => s.result) (exec (.fmtFormat 0 1 15) base) = some (some (.error (.fmtCapacity 17))) ∧
    after (fun s => s.result) (exec (.fmtFormat 1000000 3 3) base) = some (some (.error .fmtRange)) := by decide

/-! ### Unit LD: operations (sections 2.5 to 2.7) -/

/-- P3: the first byte of LD.INIT is the upper nibble of FunctionSet 0x28, Enable low. -/
theorem test_ldInit_first_byte :
    after (fun s => s.trace) (hostStep (.ok 0#8) (sending .init (.phase 0 .one))) = some [.wrote 0x27#7 0x20#8] := by
  decide

/-- Rule R155: the delay after a phase of a FunctionSet. -/
theorem test_ldInit_spaced :
    after (fun s => s.trace) (hostStep (.ok 0#8) (sending .init (.gap 0 .one))) = some [.delay 150] := by decide

/-- ER-1: the first transfer fails. -/
theorem test_ldClear_fails :
    after (fun s => (s.result, s.trace)) (hostStep (.fail 0#8) (sending .clear (.phase 0 .one))) =
      some (some (.error (.busError .write 0)), [.writeFailed 0x27#7 0x00#8]) := by decide

/-- Rule R166: after ClearDisplay the wait starts with a status read. -/
theorem test_ldClear_polls :
    after (fun s => s.seqLd) (hostStep (.ok 0#8) (sending .clear (.phase 1 .three))) =
      some (.active { op := .clear, cmd := 0, place := .probe .upper .one, polls := 0, transfers := 1 }) := by decide

/-- MV-3 and MV-4. -/
theorem test_ldMove_grid :
    after (fun s => s.seqLd) (exec (.ldMove 16#8) base) = some (.active (LdRun.start (.move 0x40))) ∧
    after (fun s => s.seqLd) (exec (.ldMove 31#8) base) = some (.active (LdRun.start (.move 0x4F))) := by decide

/-- MV-5 and MV-7. -/
theorem test_ldMove_outside :
    after (fun s => s.result) (exec (.ldMove 32#8) base) = some (some .ok) ∧
    after (fun s => s.result) (exec (.ldMove 32#8) { base with cfg := { testConfig with strictRange := true } }) =
      some (some (.error (.positionRange 32#8))) := by decide

/-- WR-1. -/
theorem test_ldWrite_empty :
    after (fun s => (s.result, s.seqLd)) (exec (.ldWrite []) base) = some (some (.written false), .idle) := by decide

/-- WR-4 and WR-5: 17 bytes at capacity 16 and 32. -/
theorem test_ldWrite_truncates :
    ((LdOp.write (List.replicate 17 0x41#8)).commands testConfig).length = 16 ∧
    truncatedFlag testConfig (List.replicate 17 0x41#8) = true ∧
    truncatedFlag { testConfig with lineCap := 32 } (List.replicate 17 0x41#8) = false := by decide

/-- Rule R88: a word that is no write command. -/
theorem test_ldCmd_refused : exec (.ldCmd 0x040#10) base = .refused (.notACommand 0x040#10) := rfl

theorem test_ldCmd_issued :
    after (fun s => s.seqLd) (exec (.ldCmd 0x141#10) base) = some (.active (LdRun.start (.cmd (.writeData 0x41#8)))) := by
  decide

/-- ST-2 and ST-5 by the last write of a status read. -/
theorem test_ldStatus_result :
    after (fun s => s.result) (hostStep (.ok 0#8)
      { sending .status (.probe .lower .three) with b1 := 0x86#8, b2 := 0x06#8 }) = some (some (.status true 0#7)) ∧
    after (fun s => s.result) (hostStep (.ok 0#8)
      { sending .status (.probe .lower .three) with b1 := 0x7F#8, b2 := 0xF0#8 }) =
        some (some (.status false 0x7F#7)) := by decide

/-- Rule R144: the probe is F2, and F6 with Enable high. -/
theorem test_ldStatus_probe :
    after (fun s => s.trace) (hostStep (.ok 0#8) (sending .status (.probe .upper .two))) =
      some [.wrote 0x27#7 0xF6#8] := by decide

/-! ### Unit LD: commands (section 2.3): SEQ, with the default parameters -/

theorem test_clearDisplay_bytes :
    busSequence testConfig .clearDisplay = [0x00#8, 0x04#8, 0x00#8, 0x10#8, 0x14#8, 0x10#8] := by decide

theorem test_returnHome_bytes :
    busSequence testConfig .returnHome = [0x00#8, 0x04#8, 0x00#8, 0x20#8, 0x24#8, 0x20#8] := by decide

theorem test_entryModeSet_bytes :
    busSequence testConfig (.entryModeSet false true) = [0x00#8, 0x04#8, 0x00#8, 0x50#8, 0x54#8, 0x50#8] := by decide

theorem test_displayControls_bytes :
    busSequence testConfig (.displayControls false true false) = [0x00#8, 0x04#8, 0x00#8, 0xA0#8, 0xA4#8, 0xA0#8] := by
  decide

theorem test_cursorDisplayShift_bytes :
    busSequence testConfig (.cursorDisplayShift true false) = [0x10#8, 0x14#8, 0x10#8, 0x80#8, 0x84#8, 0x80#8] := by
  decide

theorem test_functionSet_bytes :
    busSequence testConfig (.functionSet true false true) =
      [0x30#8, 0x34#8, 0x30#8, 0x30#8, 0x34#8, 0x30#8, 0x40#8, 0x44#8, 0x40#8] := by decide

/-- Bits above bit 6 of an address are dropped: 0xC0 is sent as 0x40. -/
theorem test_setDDRAMAddress_bytes :
    busSequence testConfig (.setDDRAMAddress 0xC0) = [0xC0#8, 0xC4#8, 0xC0#8, 0x00#8, 0x04#8, 0x00#8] := by decide

theorem test_writeData_bytes :
    busSequence testConfig (.writeData 0x37#8) = [0x31#8, 0x35#8, 0x31#8, 0x71#8, 0x75#8, 0x71#8] := by decide

/-- A status read by its command word is the status read of LD.STATUS (rule R153). -/
theorem test_statusRead_issued :
    after (fun s => s.seqLd) (exec (.statusRead 0x55#8) base) = some (.active (LdRun.start .status)) := by decide

/-- The table of other parameter values: the eighth bit, the two polarities, and Enable and RS changed over. -/
theorem test_other_parameters :
    busSequence { testConfig with auxLevel := true } .clearDisplay = [0x08#8, 0x0C#8, 0x08#8, 0x18#8, 0x1C#8, 0x18#8] ∧
    busSequence { testConfig with rsData := false } (.writeData 0x41#8) =
      [0x40#8, 0x44#8, 0x40#8, 0x10#8, 0x14#8, 0x10#8] ∧
    probeByte { testConfig with rwRead := false } .two = 0xF4#8 ∧
    busSequence { testConfig with posE := 0, posRw := 1, posRs := 2 } (.writeData 0x41#8) =
      [0x44#8, 0x45#8, 0x44#8, 0x14#8, 0x15#8, 0x14#8] := by decide

/-- The negative cases of DECODE (rule R91): wrong length, unequal first and third byte, Enable set, RS changing, the
repeated group differing in its nibble, and differing in the eighth bit alone. -/
theorem test_decodeBus_negative :
    decodeBus testConfig [0x00#8, 0x04#8, 0x00#8, 0x10#8, 0x14#8] = none ∧
    decodeBus testConfig [0x00#8, 0x04#8, 0x04#8, 0x10#8, 0x14#8, 0x10#8] = none ∧
    decodeBus testConfig [0x04#8, 0x04#8, 0x00#8, 0x10#8, 0x14#8, 0x10#8] = none ∧
    decodeBus testConfig [0x00#8, 0x04#8, 0x00#8, 0x11#8, 0x15#8, 0x11#8] = none ∧
    decodeBus testConfig [0x20#8, 0x24#8, 0x20#8, 0x30#8, 0x34#8, 0x30#8, 0x80#8, 0x84#8, 0x80#8] = none ∧
    decodeBus testConfig [0x20#8, 0x24#8, 0x20#8, 0x28#8, 0x2C#8, 0x28#8, 0x80#8, 0x84#8, 0x80#8] = none ∧
    decodeBus testConfig [0x20#8, 0x24#8, 0x20#8, 0x20#8, 0x24#8, 0x20#8, 0x80#8, 0x84#8, 0x80#8] =
      some (false, false, 0x28#8) := by decide

/-- The codes of rule R201. -/
theorem test_error_codes :
    (Result.error (.busError .read 8)).code = 1 ∧ (Result.error .busyTimeout).code = 2 ∧
    (Result.error (.positionRange 32#8)).code = 3 ∧ (Result.error (.fmtCapacity 17)).code = 4 ∧
    (Result.error .fmtRange).code = 5 ∧ (Result.written true).code = 0 := by decide

/-! ### The peers -/

/-- Rule R187: in the 8-bit state the nibble 0b0010 alone is the mode-set command. -/
theorem test_handshake_nibble :
    (latchNibble false 0b0010#4 base).ctrl.mode = .four ∧ (latchNibble false 0b0010#4 base).ctrl.half = .upper := by
  decide

/-- Rules R189, R193: the second nibble stores the byte, moves the counter on and sets BUSY. -/
theorem test_data_nibble :
    latchNibble true 1#4 { base with ctrl := { inStep 0x40#7 with up := 4#4, half := .lower } } =
      { base with ctrl := { inStep 0x41#7 with up := 4#4, ddram := [(0x40, 0x41#8)], busy := true } } := by decide

/-- Rule R193 and U28: counting up stops being given at the end of a row; counting down is given nowhere. -/
theorem test_address_successor :
    addressSuccessor true 0x0E#7 = some 0x0F#7 ∧ addressSuccessor true 0x0F#7 = none ∧
    addressSuccessor true 0x40#7 = some 0x41#7 ∧ addressSuccessor true 0x4F#7 = none ∧
    addressSuccessor true 0x3F#7 = none ∧ addressSuccessor false 0x01#7 = none ∧ addressSuccessor false 0x0F#7 = none := by
  decide

/-- P2: the string `12.` stored from 0x40 shows at the left of row 1, and row 0 is blank (rule R195). -/
theorem test_visible_rows :
    visibleRow { base with ctrl := { inStep 0x43#7 with ddram := [(0x40, 0x31#8), (0x41, 0x32#8), (0x42, 0x2E#8)] } } 1 =
      [0x31#8, 0x32#8, 0x2E#8] ++ List.replicate 13 0x20#8 ∧
    visibleRow { base with ctrl := { inStep 0x43#7 with ddram := [(0x40, 0x31#8), (0x41, 0x32#8), (0x42, 0x2E#8)] } } 0 =
      List.replicate 16 0x20#8 := by decide

/-- The canonical form: a byte stored, then the blank code stored over it, is no cell at all. -/
theorem test_memory_blank :
    Memory.write (Memory.write [] 5 0x41#8) 5 0x20#8 = [] ∧ Memory.read (Memory.write [] 5 0x41#8) 5 = 0x41#8 ∧
    Memory.read [] 5 = 0x20#8 := by decide

/-! ### Witnesses: states and operands that meet the hypotheses of each statement -/

/-- A state with one entry scheduled. -/
def next (slot : Slot) (s : State) : State := { s with schedule := [slot] }

/-- A sample in flight with OVF read next, after a tick since its register read. -/
def sampling : State :=
  { counting 3 0x1235 false with seqTc := .s4, mask := true, tL := 3, rL := 0x1234#16 }

theorem sampling_inv : sampling.Inv where
  admissible := by decide
  normalContext := rfl
  tallyWidth := by decide
  latchWidth := by decide
  maskInside := rfl
  oneThread := Or.inr rfl
  stopped := by decide
  started := fun _ => rfl
  placed := by intro r h; cases h
  pollsBelow := by intro r l h; cases h
  outSize := rfl
  outFits := by decide
  ddramWf := ⟨List.Pairwise.nil, by intro c h; cases h⟩

/-- The schedule is input: the invariant says nothing of it. -/
theorem sampling_next_inv (slot : Slot) : (next slot sampling).Inv where
  admissible := sampling_inv.admissible
  normalContext := rfl
  tallyWidth := sampling_inv.tallyWidth
  latchWidth := sampling_inv.latchWidth
  maskInside := rfl
  oneThread := Or.inr rfl
  stopped := sampling_inv.stopped
  started := fun _ => rfl
  placed := sampling_inv.placed
  pollsBelow := sampling_inv.pollsBelow
  outSize := rfl
  outFits := sampling_inv.outFits
  ddramWf := sampling_inv.ddramWf

theorem witness_DecodeOfEncode :
    WellFormed testConfig (.fmtFormat (2 ^ 32 - 1) 10 0) = true ∧ WellFormed testConfig (.ldCmd 0x1FF#10) = true ∧
    WellFormed testConfig (.setDDRAMAddress 127) = true ∧ WellFormed testConfig (.ldWrite [0x41#8]) = true := by decide

theorem witness_ReservedSelectorsAreRefused :
    ∃ s : State, (0x3A#8).toNat ∉ [0x10, 0x11, 0x1E, 0x1F, 0x20, 0x30, 0x31, 0x32, 0x33, 0x38, 0x39] ∧
      s.schedule = .request .host .op [0x3A#8] :: [] :=
  ⟨next (.request .host .op [0x3A#8]) base, by decide, rfl⟩

/-- Both sides of the equivalence, at the highest address a word carries. -/
theorem witness_ClassifyInvertsWord :
    classify .hitachi 0x0FF#10 = some (.setDDRAMAddress 127) ∧
      (Command.setDDRAMAddress 127).word .hitachi = 0x0FF#10 := by decide

/-- Both sides, at the edges of the list of rule R88. -/
theorem witness_NeverEmittedPayloads :
    classify .hitachi (0b00#2 ++ 0x7F#8) = none ∧ classify .hitachi (0b00#2 ++ 0x3C#8) ≠ none := by decide

/-- For BusRoundTrip and NibbleGroupShape. -/
theorem witness_DistinctLines : DistinctLines testConfig := by decide

theorem witness_StartResetsTheTimer : HostFree base := by decide

theorem witness_TickCounts :
    (∃ s : State, s.agent = .tickSource ∧ s.run = true ∧ s.cnt.toNat = 65535) ∧
    ∃ s : State, s.agent = .tickSource ∧ s.run = false :=
  ⟨⟨{ counting 0 65535 false with agent := .tickSource }, rfl, rfl, rfl⟩, ⟨{ base with agent := .tickSource }, rfl, rfl⟩⟩

theorem witness_SecondWrapIsLost :
    ∃ s : State, s.agent = .tickSource ∧ s.run = true ∧ s.cnt = 0xFFFF#16 ∧ s.ovf = true ∧ IdealIs s (6 * 65536 + 65535) :=
  ⟨{ counting 5 65535 true with agent := .tickSource }, rfl, rfl, rfl, rfl, rfl⟩

theorem witness_HandlerStep :
    (∃ s : State, s.agent = .handler ∧ (s.ovf = true ∧ s.ovie = true ∧ s.mask = false)) ∧
    ∃ s : State, s.agent = .handler ∧ ¬ (s.ovf = true ∧ s.ovie = true ∧ s.mask = false) :=
  ⟨⟨{ counting 65535 7 true with agent := .handler }, rfl, rfl, rfl, rfl⟩, ⟨{ base with agent := .handler }, rfl, by decide⟩⟩

theorem witness_InterruptIsTransparent :
    ∃ s : State, s.schedule = .request .handler .op (0x1F#8 :: []) :: [] ∧ s.ovf = true ∧ s.ovie = true ∧
      s.mask = false :=
  ⟨next (.request .handler .op [0x1F#8]) (counting 0 0 true), rfl, rfl, rfl, rfl⟩

theorem witness_SampleAdmission :
    (HostFree base ∧ base.run = false) ∧ (∃ s : State, s.agent ≠ .host) ∧
    (sampling.agent = .host ∧ ¬ (sampling.seqTc = .idle ∧ sampling.seqLd = .idle)) ∧
    ((sending .clear (.phase 0 .one)).agent = .host ∧
      ¬ ((sending .clear (.phase 0 .one)).seqTc = .idle ∧ (sending .clear (.phase 0 .one)).seqLd = .idle)) :=
  ⟨by decide, ⟨{ base with agent := .handler }, by decide⟩, by decide, by decide⟩

theorem witness_SampleReturnsTheCount :
    HostFree (counting 3 0x1234 false) ∧ (counting 3 0x1234 false).run = true ∧
      (counting 3 0x1234 false).cfg.capture = .split := by decide

theorem witness_AtomicSampleReturnsTheCount :
    ∃ s : State, HostFree s ∧ s.run = true ∧ s.cfg.capture = .atomic :=
  ⟨{ counting 3 0x1234 false with cfg := { testConfig with capture := .atomic } }, by decide, rfl, rfl⟩

theorem witness_SampleMicroSteps (q : SeqTc) : ∃ s : State, s.seqTc = q := ⟨{ sampling with seqTc := q }, rfl⟩

theorem witness_SplitCaptureHazard :
    HostFree (counting 0 65535 false) ∧ (counting 0 65535 false).run = true ∧
      (counting 0 65535 false).cfg.capture = .split ∧ (counting 0 65535 false).cnt = 0xFFFF#16 ∧
      (counting 0 65535 false).ovf = false := by decide

/-- The tick that takes the counter to its wrap, the flag clear. -/
theorem witness_IdealCountInvariant :
    ∃ (s t : State) (n : Nat), step s = .next t ∧ IdealIs s n ∧ ¬ losesOverflow s ∧
      idealAfter s n < 2 ^ s.cfg.tickWidth :=
  ⟨next (request .tickSource 0x1E#8) (counting 0 65535 false), _, 65535, rfl, rfl, fun h => absurd h.2 (by decide),
    by decide⟩

/-- A tick between S3 and S4 that does not wrap. -/
theorem witness_SamplesAreMonotone :
    ∃ (s t : State) (last n : Nat), s.Inv ∧ step s = .next t ∧ IdealIs s n ∧ last ≤ n ∧ SampleWithin s last n ∧
      ¬ losesOverflow s ∧ ¬ splitHazard s ∧ ¬ restartsNext s ∧ idealAfter s n < 2 ^ s.cfg.tickWidth := by
  refine ⟨next (request .tickSource 0x1E#8) sampling, _, 3 * 65536, 3 * 65536 + 0x1235, sampling_next_inv _, rfl, rfl,
    by decide, ⟨rfl, by decide, by decide⟩, fun h => absurd h.2 (by decide), fun h => absurd h.1.2.2 (by decide), ?_,
    by decide⟩
  rintro ⟨who, src, h⟩
  have h2 : requested (next (request .tickSource 0x1E#8) sampling) = some (.tickSource, .tcTick) := by decide
  rw [h2] at h
  cases h

theorem witness_CriticalSectionExcludesHandler :
    ∃ s t : State, s.Inv ∧ s.seqTc.inside = true ∧ step s = .next t ∧ s.ovf = false :=
  ⟨next (request .handler 0x1F#8) sampling, _, sampling_next_inv _, rfl, rfl, rfl⟩

/-- One step for each clause: a tick on the wrap, the handler, and a start. -/
theorem witness_TimerStateWriters :
    (∃ s t : State, step s = .next t ∧ t.cnt ≠ s.cnt ∧ s.ovf = false ∧ t.ovf = true ∧ s.run = true ∧ s.ovie = true) ∧
    (∃ s t : State, step s = .next t ∧ t.tally ≠ s.tally ∧ s.ovf = true ∧ t.ovf = false) ∧
    ∃ s t : State, step s = .next t ∧ t.clksel ≠ s.clksel :=
  ⟨⟨next (request .tickSource 0x1E#8) (counting 0 65535 false), _, rfl, by decide, rfl, rfl, rfl, rfl⟩,
   ⟨next (request .handler 0x1F#8) (counting 0 7 true), _, rfl, by decide, rfl, rfl⟩,
   ⟨next (.request .host .op [0x10#8, 1#8]) base, _, rfl, by decide⟩⟩

theorem witness_FormatWritesTheString :
    HostFree base ∧ 12500 < 2 ^ base.cfg.fmtWidth ∧ 12500 < 10 ^ (2 + 3) ∧ formattedLength 12500 2 3 ≤ base.cfg.fmtCap := by
  decide

/-- The largest value of two integer and three fractional digits. -/
theorem witness_FormattedStringIsTheValue : 99999 < 10 ^ (2 + 3) := by decide

/-- FMT-9 and FMT-26: each clause at its boundary. -/
theorem witness_FormatErrors :
    HostFree base ∧ (100000 < 2 ^ base.cfg.fmtWidth ∧ 10 ^ (2 + 3) ≤ 100000) ∧
    (0 < 2 ^ base.cfg.fmtWidth ∧ 0 < 10 ^ (1 + 15) ∧ base.cfg.fmtCap < formattedLength 0 1 15) := by decide

theorem witness_FormatDependsOnOperandsAlone :
    ∃ s t s' t' : State, s.cfg.fmtCap = t.cfg.fmtCap ∧ exec (.fmtFormat 40 2 3) s = .next s' ∧
      exec (.fmtFormat 40 2 3) t = .next t' ∧ s.out ≠ t.out :=
  ⟨base, { counting 3 5 true with out := List.replicate 16 0x41#8 }, _, _, rfl, rfl, rfl, by decide⟩

/-- For InitRunsSixCommands, ClearRunsOneCommand and WriteSendsEachByte, with the status byte of vector ST-1. -/
theorem witness_LdOperations : HostFree base ∧ base.cfg.readPath = .bareOracle ∧ (0x06#8).getLsbD 7 = false := by decide

/-- Both ranges of the grid at their edges. -/
theorem witness_MoveSendsTheAddress :
    HostFree base ∧ base.cfg.readPath = .bareOracle ∧ (0x06#8).getLsbD 7 = false ∧ (15#8).toNat ≤ 15 ∧ 16 ≤ (16#8).toNat ∧ (31#8).toNat ≤ 31 := by
  decide

theorem witness_MoveOutsideTheGrid :
    HostFree base ∧ 32 ≤ (32#8).toNat ∧ base.cfg.strictRange = false ∧
    ∃ s : State, HostFree s ∧ s.cfg.strictRange = true :=
  ⟨by decide, by decide, rfl, { base with cfg := { testConfig with strictRange := true } }, by decide, rfl⟩

/-- Both spellings of a command, at the highest address of a word. -/
theorem witness_SendWritesTheSequence :
    HostFree base ∧ (∃ (c : Command) (i : Instr), i = Instr.ofCommand c) ∧
    ∃ (c : Command) (i : Instr), i = .ldCmd (c.word base.cfg.fsLayout) ∧ ∀ a, c = .setDDRAMAddress a → a < 128 :=
  ⟨by decide, ⟨.setDDRAMAddress 200, _, rfl⟩, ⟨.setDDRAMAddress 127, _, rfl, by intro a h; cases h; decide⟩⟩

theorem witness_UnknownWordsAreRefused :
    HostFree base ∧ ∀ c : Command, c.word base.cfg.fsLayout ≠ 0x300#10 := by
  have write : ∀ (rs : Bool) (p : Byte), (0b0#1 ++ BitVec.ofBool rs ++ p : CommandWord) ≠ 0x300#10 := by decide
  exact ⟨by decide, fun c => write c.rs _⟩

theorem witness_StatusReadReturnsBusyAndAc :
    HostFree base ∧ base.cfg.readPath = .bareOracle ∧ ∃ i : Instr, i = .ldStatus ∨ ∃ u, i = .statusRead u :=
  ⟨by decide, rfl, .statusRead 0#8, Or.inr ⟨_, rfl⟩⟩

/-- For the three busy-wait statements: without a limit, and with `POLL_LIMIT = 2` at its last admissible count. -/
theorem witness_BusyWait :
    (HostFree base ∧ base.cfg.readPath = .bareOracle ∧ (0x86#8).getLsbD 7 = true ∧ (0x06#8).getLsbD 7 = false ∧
      base.cfg.longWait = .poll ∧ ∀ limit, base.cfg.pollLimit = some limit → 5 < limit) ∧
    ∃ s : State, HostFree s ∧ s.cfg.readPath = .bareOracle ∧ s.cfg.longWait = .poll ∧ s.cfg.pollLimit = some 2 ∧
      ∀ limit, s.cfg.pollLimit = some limit → 1 < limit :=
  ⟨⟨by decide, rfl, by decide, by decide, rfl, by intro l h; cases h⟩,
   { base with cfg := { testConfig with pollLimit := some 2 } }, by decide, rfl, rfl, rfl, by intro l h; cases h; decide⟩

/-- A write of a command and a read in flight, and a write of a status read. -/
theorem witness_BusFailureAborts :
    (∃ (s : State) (r : LdRun), s.seqTc = .idle ∧ s.seqLd = .active r ∧ r.placed s.cfg = true ∧
      (∀ g ph, r.place ≠ .gap g ph) ∧ r.place ≠ .longDelay ∧ ∃ g ph, r.place = .phase g ph) ∧
    (∃ (s : State) (r : LdRun), s.seqTc = .idle ∧ s.seqLd = .active r ∧ r.placed s.cfg = true ∧
      (∀ g ph, r.place ≠ .gap g ph) ∧ r.place ≠ .longDelay ∧ ∃ half ph, r.place = .probe half ph) ∧
    ∃ (s : State) (r : LdRun), s.seqTc = .idle ∧ s.seqLd = .active r ∧ r.placed s.cfg = true ∧
      (∀ g ph, r.place ≠ .gap g ph) ∧ r.place ≠ .longDelay ∧ ∃ half, r.place = .read half :=
  ⟨⟨sending .clear (.phase 1 .two), _, rfl, rfl, by decide, by intros; simp, by simp, _, _, rfl⟩,
   ⟨sending .status (.probe .lower .three), _, rfl, rfl, by decide, by intros; simp, by simp, _, _, rfl⟩,
   ⟨sending .clear (.read .upper), _, rfl, rfl, by decide, by intros; simp, by simp, _, rfl⟩⟩

/-- The delay of a FunctionSet and the fixed delay of a ClearDisplay. -/
theorem witness_DelayTouchesNothing :
    (∃ (s t : State) (r : LdRun) (ans : Answer), s.seqTc = .idle ∧ s.seqLd = .active r ∧
      (∃ g ph, r.place = .gap g ph) ∧ hostStep ans s = .next t) ∧
    ∃ (s t : State) (r : LdRun) (ans : Answer), s.seqTc = .idle ∧ s.seqLd = .active r ∧ r.place = .longDelay ∧
      hostStep ans s = .next t :=
  ⟨⟨sending .init (.gap 0 .one), _, _, .ok 0#8, rfl, rfl, ⟨0, .one, rfl⟩, rfl⟩,
   ⟨sending .clear .longDelay, _, _, .ok 0#8, rfl, rfl, rfl, rfl⟩⟩

/-- For OneBusEventPerStep and both clauses of LinesFollowWrites: a byte written, and a failed write that moves lines. -/
theorem witness_BusSteps :
    (∃ (s t : State) (b : Byte), step s = .next t ∧ t.trace = s.trace ++ [.wrote s.cfg.lcdAddr b] ∧
      t.lines ≠ s.lines) ∧
    ∃ s t : State, step s = .next t ∧ t.lines ≠ s.lines :=
  ⟨⟨next (.proceed (.ok 0#8)) (sending .init (.phase 0 .two)), _, 0x24#8, rfl, rfl, by decide⟩,
   ⟨next (.proceed (.fail 0x40#8)) (sending .init (.phase 0 .two)), _, rfl, by decide⟩⟩

theorem witness_NothingIssuedInFlight :
    sampling.agent = .host ∧ ¬ (sampling.seqTc = .idle ∧ sampling.seqLd = .idle) ∧
      ∃ i : Instr, i ≠ .tcTick ∧ i ≠ .tcOvf :=
  ⟨rfl, by decide, .ldInit, by decide, by decide⟩

theorem witness_RequestsBelongToOneAgent :
    base.agent ≠ .tickSource ∧ base.agent ≠ .handler ∧
    ∃ (s : State) (i : Instr), i ≠ .tcTick ∧ i ≠ .tcOvf ∧ s.agent ≠ .host :=
  ⟨by decide, by decide, { base with agent := .handler }, .tcSample, by decide, by decide, by decide⟩

/-- For CommandsAtTheController: the last cell from which the counter goes on, in each row. -/
theorem witness_CommandsAtTheController :
    (∃ s : State, HostFree s ∧ DistinctLines s.cfg ∧ InStep s ∧ Memory.wf s.ctrl.ddram ∧
      s.ctrl.incrementCursor = true ∧ s.ctrl.ac.toNat = 0x0E) ∧
    (∃ s : State, HostFree s ∧ DistinctLines s.cfg ∧ InStep s ∧ Memory.wf s.ctrl.ddram ∧
      s.ctrl.incrementCursor = true ∧ s.ctrl.ac.toNat = 0x4E) ∧
    repeatUpper (.writeData 0x41#8) = false :=
  ⟨⟨{ base with ctrl := inStep 0x0E#7 }, by decide, by decide, ⟨rfl, rfl, rfl, rfl, rfl⟩, by decide, rfl, rfl⟩,
   ⟨{ base with ctrl := inStep 0x4E#7 }, by decide, by decide, ⟨rfl, rfl, rfl, rfl, rfl⟩, by decide, rfl, rfl⟩, rfl⟩

theorem witness_FunctionSetHandshake :
    HostFree base ∧ DistinctLines base.cfg ∧ base.ctrl.mode = .eight ∧ base.ctrl.busy = false ∧
      enableOf base.cfg base.lines = false := by decide

theorem witness_StatusReadShowsTheController :
    ∃ s : State, HostFree s ∧ DistinctLines s.cfg ∧ s.cfg.readPath = .referenceEnvironment ∧ s.ctrl.mode = .four ∧
      s.ctrl.readHalf = .upper ∧ enableOf s.cfg s.lines = false :=
  ⟨{ base with cfg := { testConfig with readPath := .referenceEnvironment }, ctrl := inStep 0x46#7 }, by decide,
    by decide, rfl, rfl, rfl, rfl⟩

theorem witness_ClearIsIdempotent :
    ∃ (s : State) (v : Byte), HostFree s ∧ DistinctLines s.cfg ∧ s.cfg.longWait = .poll ∧
      v.getLsbD 7 = false ∧ InStep s :=
  ⟨{ base with ctrl := inStep 0x46#7 }, 0x06#8, by decide, by decide, rfl, by decide, ⟨rfl, rfl, rfl, rfl, rfl⟩⟩

/-- For the second clause of ControllerFinishes: a wait that ends before another command, and one that ends its operation. -/
theorem witness_ControllerFinishes :
    (∃ (s : State) (r : LdRun), s.seqTc = .idle ∧ s.seqLd = .active r ∧ r.place = .probe .lower .three ∧ r.op ≠ .status ∧
      busyOf (statusByte s.b1 s.b2) = false ∧ r.cmd + 1 < (r.op.commands s.cfg).length) ∧
    ∃ (s : State) (r : LdRun), s.seqTc = .idle ∧ s.seqLd = .active r ∧ r.place = .probe .lower .three ∧ r.op ≠ .status ∧
      busyOf (statusByte s.b1 s.b2) = false ∧ ¬ r.cmd + 1 < (r.op.commands s.cfg).length :=
  ⟨⟨sending .init (.probe .lower .three), _, rfl, rfl, rfl, by decide, by decide, by decide⟩,
   ⟨sending .clear (.probe .lower .three), _, rfl, rfl, rfl, by decide, by decide, by decide⟩⟩

/-- Rule R62: the wait after a command ends with the controller ready, though the schedule has no ready entry. -/
theorem test_wait_orders_completion :
    after (fun s => (s.ctrl.busy, s.ctrl.half))
      (hostStep (.ok 0#8) { sending .init (.probe .lower .three) with ctrl := { inStep 0#7 with busy := true } }) =
      some (false, .upper) := by decide

/-- For both clauses of ReadsMoveNoPeer, a busy answer read at a controller that is not busy, a write and the controller
finishing; the last for the first clause of ControllerFinishes too. -/
theorem witness_ReadsMoveNoPeer :
    (∃ s t : State, step s = .next t ∧ t.trace = s.trace ++ [.read s.cfg.lcdAddr 0x86#8]) ∧
    (∃ s t : State, step s = .next t ∧ t.ctrl ≠ s.ctrl ∧ ∃ rest, s.schedule = .ready :: rest) ∧
    ∃ s t : State, step s = .next t ∧ t.ctrl ≠ s.ctrl ∧ t.trace = s.trace ++ [.wrote s.cfg.lcdAddr 0#8] :=
  ⟨⟨next (.proceed (.ok 0x86#8)) (sending .status (.read .upper)), _, rfl, rfl⟩,
   ⟨next .ready { base with ctrl := { inStep 0x41#7 with busy := true } }, _, rfl, by decide, _, rfl⟩,
   ⟨next (.proceed (.ok 0#8)) { sending .clear (.phase 0 .three) with lines := 0x04#8, ctrl := inStep 0x41#7 }, _, rfl,
    by decide, rfl⟩⟩

/-- The three outcomes a decoded instruction can have are a next state and a refusal; the third, a fault, none has. -/
theorem witness_StepRunsDecoded :
    (∃ (s t : State) (i : Instr), s.schedule = .request .host .op [0x10#8, 1#8] :: [] ∧
      decode s.cfg.fsLayout .op [0x10#8, 1#8] = .ok i [] ∧
      exec i { s with schedule := [], agent := .host } = .next t) ∧
    ∃ (s : State) (i : Instr) (r : Refusal), s.schedule = .request .host .op [0x11#8] :: [] ∧
      decode s.cfg.fsLayout .op [0x11#8] = .ok i [] ∧ exec i { s with schedule := [], agent := .host } = .refused r :=
  ⟨⟨next (.request .host .op [0x10#8, 1#8]) base, _, _, rfl, rfl, rfl⟩,
   ⟨next (.request .host .op [0x11#8]) base, _, _, rfl, rfl, rfl⟩⟩

/-- The last cell of each row, the counter leaving the row after it. -/
theorem witness_WrittenCharacterIsVisible :
    (∃ s : State, HostFree s ∧ DistinctLines s.cfg ∧ InStep s ∧ Memory.wf s.ctrl.ddram ∧
      s.ctrl.ac.toNat = 0x40 * (0 : Fin 2).val + (15 : Fin 16).val) ∧
    ∃ s : State, HostFree s ∧ DistinctLines s.cfg ∧ InStep s ∧ Memory.wf s.ctrl.ddram ∧
      s.ctrl.ac.toNat = 0x40 * (1 : Fin 2).val + (15 : Fin 16).val :=
  ⟨⟨{ base with ctrl := inStep 0x0F#7 }, by decide, by decide, ⟨rfl, rfl, rfl, rfl, rfl⟩, by decide, rfl⟩,
   ⟨{ base with ctrl := inStep 0x4F#7 }, by decide, by decide, ⟨rfl, rfl, rfl, rfl, rfl⟩, by decide, rfl⟩⟩

/-- For StepKeepsInvariant and NoStepFaults. -/
theorem witness_StepKeepsInvariant : ∃ s t : State, s.Inv ∧ step s = .next t :=
  ⟨next (.proceed (.ok 0#8)) sampling, _, sampling_next_inv _, rfl⟩

/-- For ParametersNeverChange, and for both clauses of UnitsShareNoState: a bus step, and a format. -/
theorem witness_UnitsShareNoState :
    (∃ s t : State, step s = .next t ∧ t.lines ≠ s.lines) ∧ ∃ s t : State, step s = .next t ∧ t.outLen ≠ s.outLen :=
  ⟨⟨next (.proceed (.ok 0#8)) (sending .init (.phase 0 .two)), _, rfl, by decide⟩,
   ⟨next (.request .host .op [0x20#8, 40#8, 2#8, 3#8]) base, _, rfl, by decide⟩⟩

end Sys2Proof.Tests
end

/-! ### Scope (spec 00_scope.md): each step is the step of one unit -/

namespace Sys2Proof.Machine

/-- All that changes from `s` to the other state is the state of one unit (rule R2), beside what belongs to none: the
agent, the result and the schedule. The display's part takes in the peers, the trace and the draw counter. -/
inductive InOneUnit (s : State) : State → Prop
  | timer {cnt : BitVec 16} {tally tL : Nat} {rL : BitVec 16} {pL ovf run : Bool} {clksel : ClockSource}
      {ovie mask : Bool} {seqTc : SeqTc} {agent : Agent} {result : Option Result} {schedule : List Slot} :
      InOneUnit s { s with
        cnt := cnt, tally := tally, tL := tL, rL := rL, pL := pL, ovf := ovf, run := run, clksel := clksel
        ovie := ovie, mask := mask, seqTc := seqTc, agent := agent, result := result, schedule := schedule }
  | formatter {out : List Byte} {outLen : Nat} {outValid : Bool} {agent : Agent} {result : Option Result}
      {schedule : List Slot} :
      InOneUnit s { s with
        out := out, outLen := outLen, outValid := outValid, agent := agent, result := result, schedule := schedule }
  | display {seqLd : SeqLd} {b1 b2 lines : Byte} {ctrl : Controller} {trace : List Event} {draws : Nat}
      {agent : Agent} {result : Option Result} {schedule : List Slot} :
      InOneUnit s { s with
        seqLd := seqLd, b1 := b1, b2 := b2, lines := lines, ctrl := ctrl, trace := trace, draws := draws
        agent := agent, result := result, schedule := schedule }

/-- Taking an entry off the schedule and resuming the host touch no unit, so what happens between them decides. -/
theorem InOneUnit.resumeHost_openStep {s u : State} {who : Agent} {rest : List Slot}
    (h : InOneUnit (openStep who rest s) u) : InOneUnit s (resumeHost u) := by
  cases h with
  | timer => exact .timer
  | formatter => exact .formatter
  | display => exact .display

theorem SameOutsideLd.inOneUnit {s t : State} (h : SameOutsideLd s t) : InOneUnit s t := by
  rw [h]
  exact .display

theorem sampleStep_inOneUnit (s : State) : InOneUnit s (sampleStep s) := by
  rw [sampleStep_frame]
  exact .timer

theorem formatStep_inOneUnit (v n m : Nat) (s : State) : InOneUnit s (formatStep v n m s) := by
  obtain ⟨o, l, k, r, h⟩ := formatStep_frame v n m s
  rw [h]
  exact .formatter

theorem exec_inOneUnit {i : Instr} {s t : State} (h : exec i s = .next t) : InOneUnit s t := by
  cases exec_next h with
  | start => exact .timer
  | sample => exact .timer
  | tick => split <;> exact .timer
  | overflow => split <;> exact .timer
  | format v n m => exact formatStep_inOneUnit v n m s
  | begin => exact .display
  | atOnce => exact .display

theorem hostStep_inOneUnit {ans : Answer} {s t : State} (h : hostStep ans s = .next t) : InOneUnit s t := by
  obtain ⟨-, -, rfl⟩ | ⟨-, rfl⟩ | ⟨-, r, -, hr⟩ := hostStep_cases h
  · exact .timer
  · exact sampleStep_inOneUnit s
  · obtain ⟨hout, -, -⟩ := ldStep_next hr
    exact hout.inOneUnit

/-- Every step is the step of one unit. -/
theorem step_inOneUnit {s t : State} (h : step s = .next t) : InOneUnit s t := by
  cases step_next h with
  | idle => exact .timer
  | request who fmt bytes rest i tail u _ _ hu => exact (exec_inOneUnit hu).resumeHost_openStep
  | proceed ans rest u _ hu => exact (hostStep_inOneUnit hu).resumeHost_openStep
  | ready => exact .display

/-- Settles O57: no unit's part of the state holds the configuration. -/
theorem parametersNeverChange : Obligations.ParametersNeverChange := by
  intro s t h
  cases step_inOneUnit h with
  | timer => rfl
  | formatter => rfl
  | display => rfl

/-- Settles O58: a step of one unit either changes none of the elements a clause asks about, or leaves the other
units alone. -/
theorem unitsShareNoState : Obligations.UnitsShareNoState := by
  intro s t h
  cases step_inOneUnit h with
  | timer => simp
  | formatter => simp
  | display => simp

end Sys2Proof.Machine

/-! ### The machine's state (spec 10_state.md): reset, the writers of the timer's elements, the invariant -/

namespace Sys2Proof.Machine

/-! #### Reset -/

/-- Settles O53: `State.reset` holds each of the values. -/
theorem resetValues : Obligations.ResetValues := ⟨rfl, rfl, rfl, rfl, rfl, rfl, rfl, rfl, rfl⟩

/-- The defaults of rule R6 are admissible, whatever values its undecided parameters have. -/
theorem default_admissible : Config.default.Admissible := by
  have hphase := Config.openPhase.isLt
  refine ⟨le_rfl, Nat.succ_pos _, by decide, Or.inl rfl, Nat.le_add_right _ _, ?_, Nat.succ_pos _, by decide,
    by decide, by decide⟩
  change 100 + Config.openPhase.val ≤ 200
  omega

/-- Settles O54: nothing counts, is masked or is in flight, and the parameters are admissible. -/
theorem resetMeetsInvariant : Obligations.ResetMeetsInvariant where
  admissible := default_admissible
  normalContext := rfl
  tallyWidth := Nat.two_pow_pos _
  latchWidth := Nat.two_pow_pos _
  maskInside := rfl
  oneThread := Or.inl rfl
  stopped := fun _ => ⟨rfl, rfl, rfl, rfl⟩
  started := by simp [State.reset]
  placed := by simp [State.reset]
  pollsBelow := by simp [State.reset]
  outSize := rfl
  outFits := by simp [State.reset]
  ddramWf := reset_memory_wf

/-! #### Admission -/

/-- Every instruction but the two events is a host operation. -/
theorem exec_eq_hostOperation (i : Instr) (s : State) (htick : i ≠ .tcTick) (hovf : i ≠ .tcOvf) :
    ∃ go, exec i s = hostOperation s go := by
  cases i with
  | tcTick => exact absurd rfl htick
  | tcOvf => exact absurd rfl hovf
  | _ => exact ⟨_, rfl⟩

theorem hostOperation_inFlight {s : State} (go : Outcome) (ha : s.agent = .host)
    (hf : ¬ (s.seqTc = .idle ∧ s.seqLd = .idle)) : hostOperation s go = .refused .operationInFlight := by
  have hin : inFlight s = true := by simpa using mt inFlight_eq_false.1 hf
  simp [hostOperation, ha, hin]

/-- Settles O43: what is no event is a host operation, and those are refused in flight. -/
theorem nothingIssuedInFlight : Obligations.NothingIssuedInFlight := by
  intro s i ha hf htick hovf
  obtain ⟨go, hgo⟩ := exec_eq_hostOperation i s htick hovf
  rw [hgo]
  exact hostOperation_inFlight go ha hf

/-! #### Who writes the timer's elements -/

/-- The elements of unit TC outside its sample: the counter, the tally and the flags of rules R11, R12, R18, R21. -/
def SameTimer (s t : State) : Prop :=
  t.cnt = s.cnt ∧ t.tally = s.tally ∧ t.ovf = s.ovf ∧ t.run = s.run ∧ t.clksel = s.clksel ∧ t.ovie = s.ovie

/-- What a step can do to the timer: nothing, or the one write of `TC.TICK`, `TC.OVF` or `TC.START`, asked for by the
agent it belongs to. -/
inductive TimerStep (s t : State) : Prop
  | kept : SameTimer s t → TimerStep s t
  | tick : requested s = some (.tickSource, .tcTick) → s.run = true → SameTimer (countTick s) t → TimerStep s t
  | overflow : requested s = some (.handler, .tcOvf) → handlerEnabled s = true → SameTimer (takeOverflow s) t →
      TimerStep s t
  | start (src : ClockSource) : requested s = some (.host, .tcStart src) → SameTimer (startTimer src s) t →
      TimerStep s t

theorem SameTimer.refl (s : State) : SameTimer s s := ⟨rfl, rfl, rfl, rfl, rfl, rfl⟩

theorem SameOutsideLd.sameTimer {s t : State} (h : SameOutsideLd s t) : SameTimer s t := by
  rw [h]
  exact SameTimer.refl s

theorem sampleStep_sameTimer (s : State) : SameTimer s (sampleStep s) := by
  rw [sampleStep_frame]
  exact SameTimer.refl s

theorem formatStep_sameTimer (v n m : Nat) (s : State) : SameTimer s (formatStep v n m s) := by
  obtain ⟨o, l, k, r, h⟩ := formatStep_frame v n m s
  rw [h]
  exact SameTimer.refl s

theorem hostStep_sameTimer {ans : Answer} {s t : State} (h : hostStep ans s = .next t) : SameTimer s t := by
  obtain ⟨-, -, rfl⟩ | ⟨-, rfl⟩ | ⟨-, r, -, hr⟩ := hostStep_cases h
  · exact SameTimer.refl _
  · exact sampleStep_sameTimer s
  · obtain ⟨hout, -, -⟩ := ldStep_next hr
    exact hout.sameTimer

/-- The instruction a step has executed is the one its schedule asked for. -/
theorem requested_eq {s : State} {who : Agent} {fmt : Format} {bytes tail : List Byte} {rest : List Slot} {i : Instr}
    (hs : s.schedule = .request who fmt bytes :: rest) (hd : fetch s fmt bytes = .ok i tail) :
    requested s = some (who, i) := by
  simp [requested, hs, hd]

theorem exec_timerStep {s u : State} {who : Agent} {rest : List Slot} {i : Instr} (hreq : requested s = some (who, i))
    (h : exec i (openStep who rest s) = .next u) : TimerStep s u := by
  cases exec_next h with
  | start src hf =>
    obtain ⟨rfl, -, -⟩ := hf
    exact .start src hreq (SameTimer.refl _)
  | sample => exact .kept (SameTimer.refl s)
  | tick ha =>
    obtain rfl : who = .tickSource := ha
    split
    next hr => exact .tick hreq hr (SameTimer.refl _)
    next => exact .kept (SameTimer.refl s)
  | overflow ha =>
    obtain rfl : who = .handler := ha
    split
    next he => exact .overflow hreq he (SameTimer.refl _)
    next => exact .kept (SameTimer.refl s)
  | format v n m => exact .kept (formatStep_sameTimer v n m (openStep who rest s))
  | begin => exact .kept (SameTimer.refl s)
  | atOnce => exact .kept (SameTimer.refl s)

/-- One inversion lemma for what `step` does to the timer. -/
theorem step_timerStep {s t : State} (h : step s = .next t) : TimerStep s t := by
  cases step_next h with
  | idle => exact .kept (SameTimer.refl s)
  | request who fmt bytes rest i tail u hs hd hu =>
    cases exec_timerStep (requested_eq hs hd) hu with
    | kept hk => exact .kept hk
    | tick hreq hr hk => exact .tick hreq hr hk
    | overflow hreq he hk => exact .overflow hreq he hk
    | start src hreq hk => exact .start src hreq hk
  | proceed ans rest u _ hu =>
    have hk : SameTimer (openStep .host rest s) u := hostStep_sameTimer hu
    exact .kept hk
  | ready => exact .kept (SameTimer.refl s)

theorem ovfAfterTick_of_pending (cnt : BitVec 16) : ovfAfterTick cnt true = true := by simp [ovfAfterTick]

/-- Settles O22: each of the four things a step can do to the timer meets every clause. -/
theorem timerStateWriters : Obligations.TimerStateWriters := by
  intro s t h
  cases step_timerStep h with
  | kept hk =>
    obtain ⟨hcnt, htally, hovf, hrun, hclk, hovie⟩ := hk
    simp +contextual [hcnt, htally, hovf, hrun, hclk, hovie]
  | tick hreq _ hk =>
    obtain ⟨hcnt, htally, hovf, hrun, hclk, hovie⟩ := hk
    simp +contextual [hcnt, htally, hovf, hrun, hclk, hovie, hreq, ovfAfterTick_of_pending]
  | overflow hreq _ hk =>
    obtain ⟨hcnt, htally, hovf, hrun, hclk, hovie⟩ := hk
    simp [hcnt, htally, hovf, hrun, hclk, hovie, hreq]
  | start src hreq hk =>
    obtain ⟨hcnt, htally, hovf, hrun, hclk, hovie⟩ := hk
    simp [hcnt, htally, hovf, hrun, hclk, hovie, hreq]

/-! #### Where `SEQ_LD` stands (rules R16, R167) -/

/-- The run stands at a place its operation has, and its wait has made fewer status reads than `POLL_LIMIT`. -/
structure LdRun.OnSequence (cfg : Config) (r : LdRun) : Prop where
  placed : r.placed cfg = true
  pollsBelow : ∀ limit, cfg.pollLimit = some limit → r.polls < limit

/-- The two clauses of the invariant about `SEQ_LD`, as one. -/
def OnSequence (s : State) : Prop := ∀ r, s.seqLd = .active r → r.OnSequence s.cfg

/-- The operation makes status reads where it stands: it is `LD.STATUS`, or it waits after the command it has sent. -/
def LdRun.mayRead (cfg : Config) (r : LdRun) : Bool := r.op == .status || (r.op.waits && (r.command cfg).isSome)

theorem mayRead_of_waits {cfg : Config} {r : LdRun} {c : Command} (hw : r.op.waits = true)
    (hc : r.command cfg = some c) : r.mayRead cfg = true := by
  simp [LdRun.mayRead, hw, hc]

theorem setRun_onSequence {r : LdRun} {s : State} (h : r.OnSequence s.cfg) : OnSequence (setRun r s) := by
  intro q hq
  cases hq
  exact h

theorem finishLd_onSequence (res : Result) (s : State) : OnSequence (finishLd res s) := by
  intro q hq
  cases hq

theorem placed_phase {cfg : Config} {r : LdRun} {g : Nat} {ph : Phase} (hp : r.place = .phase g ph) :
    r.placed cfg = (r.nibble cfg g).isSome := by
  simp [LdRun.placed, hp]

theorem placed_gap {cfg : Config} {r : LdRun} {g : Nat} {ph : Phase} {c : Command} {nib : Nibble}
    (hp : r.place = .gap g ph) (hn : r.nibble cfg g = some (c, nib)) : r.placed cfg = spaced c := by
  simp [LdRun.placed, hp, hn]

theorem placed_probe {cfg : Config} {r : LdRun} {half : Half} {ph : Phase} (hp : r.place = .probe half ph) :
    r.placed cfg = r.mayRead cfg := by
  simp [LdRun.placed, LdRun.mayRead, hp]

theorem placed_read {cfg : Config} {r : LdRun} {half : Half} (hp : r.place = .read half) :
    r.placed cfg = r.mayRead cfg := by
  simp [LdRun.placed, LdRun.mayRead, hp]

theorem placed_longDelay {cfg : Config} {r : LdRun} {c : Command} (hp : r.place = .longDelay)
    (hc : r.command cfg = some c) : r.placed cfg = (r.op.waits && longWaitClass c && (cfg.longWait == .delay)) := by
  simp [LdRun.placed, hp, hc]

theorem nibble_eq_some {cfg : Config} {r : LdRun} {g : Nat} {c : Command} {nib : Nibble} :
    r.nibble cfg g = some (c, nib) ↔ r.command cfg = some c ∧ (sentNibbles cfg c)[g]? = some nib := by
  unfold LdRun.nibble
  split
  next hnone => simp [hnone]
  next d hd =>
    split
    next hnone => grind
    next x hx => grind

/-- A command in flight has every nibble group its sequence has. -/
theorem nibble_isSome {cfg : Config} {r : LdRun} {g : Nat} {c : Command} (hc : r.command cfg = some c)
    (hg : g < (sentNibbles cfg c).length) : (r.nibble cfg g).isSome = true := by
  rw [nibble_eq_some.2 ⟨hc, List.getElem?_eq_getElem hg⟩]
  rfl

theorem LdRun.OnSequence.counted {cfg : Config} {r : LdRun} (h : r.OnSequence cfg) : r.counted.OnSequence cfg :=
  ⟨h.placed, h.pollsBelow⟩

theorem LdRun.OnSequence.goTo {cfg : Config} {r : LdRun} {p : Place} (h : r.OnSequence cfg)
    (hp : (r.goTo p).placed cfg = true) : (r.goTo p).OnSequence cfg :=
  ⟨hp, h.pollsBelow⟩

/-- A wait that has made no status read is below every admissible limit. -/
theorem pos_of_pollLimit {cfg : Config} (hlim : cfg.pollLimit ≠ some 0) (limit : Nat)
    (h : cfg.pollLimit = some limit) : 0 < limit :=
  Nat.pos_of_ne_zero fun hzero => hlim (hzero ▸ h)

theorem afterCommand_onSequence {r : LdRun} {s : State} (hlim : s.cfg.pollLimit ≠ some 0) :
    OnSequence (afterCommand r s) := by
  unfold afterCommand
  split
  next hlen =>
    have hc : r.nextCommand.command s.cfg = some _ := List.getElem?_eq_getElem hlen
    obtain ⟨nib, hn⟩ := sentNibbles_head s.cfg (r.op.commands s.cfg)[r.cmd + 1]
    refine setRun_onSequence ⟨?_, pos_of_pollLimit hlim⟩
    rw [placed_phase rfl, nibble_eq_some.2 ⟨hc, hn⟩]
    rfl
  next => exact finishLd_onSequence _ s

theorem afterSend_onSequence {r : LdRun} {c : Command} {s : State} (hlim : s.cfg.pollLimit ≠ some 0)
    (hr : r.OnSequence s.cfg) (hc : r.command s.cfg = some c) : OnSequence (afterSend r c s) := by
  unfold afterSend
  split
  next => exact finishLd_onSequence _ s
  next hop =>
    have hw : r.op.waits = true := by
      cases ho : r.op with
      | cmd d => exact absurd ho (hop d)
      | _ => rfl
    split
    next hlong =>
      obtain ⟨hclass, hdelay⟩ := hlong
      refine setRun_onSequence (hr.goTo ?_)
      rw [placed_longDelay (r := r.goTo .longDelay) rfl hc]
      simp [LdRun.goTo, hw, hclass, hdelay]
    next => exact setRun_onSequence ⟨(placed_probe rfl).trans (mayRead_of_waits hw hc), pos_of_pollLimit hlim⟩

theorem afterPhase_onSequence {r : LdRun} {c : Command} {nib : Nibble} {g : Nat} (ph : Phase) {s : State}
    (hlim : s.cfg.pollLimit ≠ some 0) (hr : r.OnSequence s.cfg) (hn : r.nibble s.cfg g = some (c, nib)) :
    OnSequence (afterPhase r c g ph s) := by
  have same : ∀ ph', (r.goTo (.phase g ph')).placed s.cfg = true := by
    intro ph'
    have hn' : (r.goTo (.phase g ph')).nibble s.cfg g = some (c, nib) := hn
    rw [placed_phase rfl, hn']
    rfl
  obtain ⟨hc, -⟩ := nibble_eq_some.1 hn
  cases ph with
  | one => exact setRun_onSequence (hr.goTo (same .two))
  | two => exact setRun_onSequence (hr.goTo (same .three))
  | three =>
    simp only [afterPhase]
    split
    next hlen => exact setRun_onSequence (hr.goTo ((placed_phase rfl).trans (nibble_isSome hc hlen)))
    next => exact afterSend_onSequence hlim hr hc

theorem afterStatus_onSequence {r : LdRun} {s : State} (hlim : s.cfg.pollLimit ≠ some 0)
    (hread : r.mayRead s.cfg = true) : OnSequence (afterStatus r s) := by
  unfold afterStatus
  split
  next => exact finishLd_onSequence _ s
  next =>
    split
    next => exact afterCommand_onSequence hlim
    next =>
      split
      next limit heq =>
        split
        next => exact finishLd_onSequence _ s
        next hmore =>
          refine setRun_onSequence ⟨(placed_probe rfl).trans hread, fun limit' h => ?_⟩
          cases heq.symm.trans h
          exact Nat.lt_of_not_le hmore
      next heq => exact setRun_onSequence ⟨(placed_probe rfl).trans hread, by simp [heq]⟩

theorem afterProbe_onSequence {r : LdRun} (half : Half) (ph : Phase) {s : State} (hlim : s.cfg.pollLimit ≠ some 0)
    (hr : r.OnSequence s.cfg) (hread : r.mayRead s.cfg = true) : OnSequence (afterProbe r half ph s) := by
  cases ph with
  | one => exact setRun_onSequence (hr.goTo ((placed_probe rfl).trans hread))
  | two => exact setRun_onSequence (hr.goTo ((placed_read rfl).trans hread))
  | three =>
    cases half with
    | upper => exact setRun_onSequence (hr.goTo ((placed_probe rfl).trans hread))
    | lower => exact afterStatus_onSequence hlim hread

theorem afterWrite_onSequence (r : LdRun) (ans : Answer) (k : LdRun → State → State) (s : State)
    (hk : OnSequence (k r.counted s)) : OnSequence (afterWrite r ans k s) := by
  unfold afterWrite
  split
  · exact hk
  · exact finishLd_onSequence _ s

theorem SameOutsideLd.cfg {s t : State} (h : SameOutsideLd s t) : t.cfg = s.cfg := by rw [h]

theorem phaseStep_onSequence {r : LdRun} {c : Command} {nib : Nibble} {g : Nat} {ph : Phase} {ans : Answer} {s : State}
    (hlim : s.cfg.pollLimit ≠ some 0) (hr : r.OnSequence s.cfg) (hn : r.nibble s.cfg g = some (c, nib)) :
    OnSequence (phaseStep r c nib g ph ans s) := by
  unfold phaseStep
  rw [← (busWrite_outside (pack s.cfg nib c.rs false ph.enable) ans s).cfg] at hlim hr hn
  apply afterWrite_onSequence
  split
  next hs => exact setRun_onSequence (hr.counted.goTo ((placed_gap (r := r.counted.goTo _) rfl hn).trans hs))
  next => exact afterPhase_onSequence ph hlim hr.counted hn

theorem probeStep_onSequence {r : LdRun} {half : Half} {ph : Phase} {ans : Answer} {s : State}
    (hlim : s.cfg.pollLimit ≠ some 0) (hr : r.OnSequence s.cfg) (hread : r.mayRead s.cfg = true) :
    OnSequence (probeStep r half ph ans s) := by
  unfold probeStep
  rw [← (busWrite_outside (probeByte s.cfg ph) ans s).cfg] at hlim hr hread
  exact afterWrite_onSequence _ _ _ _ (afterProbe_onSequence half ph hlim hr.counted hread)

theorem readStep_onSequence {r : LdRun} (half : Half) (ans : Answer) {s : State} (hr : r.OnSequence s.cfg)
    (hread : r.mayRead s.cfg = true) : OnSequence (readStep r half ans s) := by
  cases ans with
  | fail l => exact finishLd_onSequence _ _
  | ok v =>
    refine setRun_onSequence ?_
    have hcfg : (latchStatus half (busReadByte v s) (busRead (.ok v) s)).cfg = s.cfg := by cases half <;> rfl
    rw [hcfg]
    exact hr.counted.goTo ((placed_probe rfl).trans hread)

/-- A host step of unit LD leads from a place of the operation to a place it has, or ends it. -/
theorem ldStep_onSequence {r : LdRun} {ans : Answer} {s t : State} (hlim : s.cfg.pollLimit ≠ some 0)
    (hr : r.OnSequence s.cfg) (h : ldStep r ans s = .next t) : OnSequence t := by
  unfold ldStep at h
  split at h
  next g ph hp =>
    split at h
    next => cases h
    next c nib hn => cases h; exact phaseStep_onSequence hlim hr hn
  next g ph hp =>
    split at h
    next => cases h
    next c nib hn => cases h; exact afterPhase_onSequence (s := delay s.cfg.tPhaseUs s) ph hlim hr hn
  next half ph hp => cases h; exact probeStep_onSequence hlim hr ((placed_probe hp).symm.trans hr.placed)
  next half hp => cases h; exact readStep_onSequence half ans hr ((placed_read hp).symm.trans hr.placed)
  next => cases h; exact afterCommand_onSequence (s := delay s.cfg.tLongUs s) hlim

/-- At a place its operation has, a host step of unit LD does not fault. -/
theorem ldStep_ne_fault {r : LdRun} {s : State} (ans : Answer) (f : Fault) (hr : r.placed s.cfg = true) :
    ldStep r ans s ≠ .fault f := by
  unfold ldStep
  split
  next g ph hp =>
    rw [placed_phase hp] at hr
    split
    next hn => simp [hn] at hr
    next => simp
  next g ph hp =>
    split
    next hn => simp [LdRun.placed, hp, hn] at hr
    next => simp
  all_goals simp

/-! #### The invariant, part by part

The agent is set for the length of one step, so the lemmas below are about the state as the host resumes it. -/

theorem State.Inv.onSequence {s : State} (h : s.Inv) : OnSequence s :=
  fun r hr => ⟨h.placed r hr, fun limit => h.pollsBelow r limit hr⟩

theorem State.Inv.pollLimit_ne_zero {s : State} (h : s.Inv) : s.cfg.pollLimit ≠ some 0 := by
  obtain ⟨-, -, -, -, -, -, -, hlim, -, -⟩ := h.admissible
  exact hlim

/-- The invariant does not depend on what is scheduled or on whose step is taken. -/
theorem State.Inv.resumeHost_openStep {s : State} (h : s.Inv) (who : Agent) (rest : List Slot) :
    (resumeHost (openStep who rest s)).Inv := { h with normalContext := rfl }

theorem resumeHost_controllerReady_inv {s : State} (h : (resumeHost s).Inv) : (resumeHost (controllerReady s)).Inv :=
  { h with }

theorem startTimer_inv {s : State} (src : ClockSource) (h : (resumeHost s).Inv) (hf : HostFree s) :
    (resumeHost (returnResult .ok (leaveCritical (startTimer src (enterCritical s))))).Inv := by
  obtain ⟨-, htc, -⟩ := hf
  exact { h with
    tallyWidth := Nat.two_pow_pos _
    maskInside := by simp [htc, SeqTc.inside]
    stopped := by simp
    started := by simp }

theorem beginSample_inv {s : State} (h : (resumeHost s).Inv) (hf : HostFree s) (hr : s.run = true) :
    (resumeHost { s with seqTc := .s1, result := none }).Inv := by
  obtain ⟨-, htc, hld⟩ := hf
  have hmask : s.mask = s.seqTc.inside := h.maskInside
  exact { h with
    maskInside := by simp [resumeHost, hmask, htc, SeqTc.inside]
    oneThread := Or.inr hld
    stopped := by simp [resumeHost, hr] }

theorem countTick_inv {s : State} (h : (resumeHost s).Inv) (hr : s.run = true) : (resumeHost (countTick s)).Inv :=
  { h with stopped := by simp [hr] }

theorem takeOverflow_inv {s : State} (h : (resumeHost s).Inv) (he : handlerEnabled s = true) :
    (resumeHost (takeOverflow s)).Inv := by
  have hmask : s.mask = false := by simp_all [handlerEnabled]
  have hinside : s.mask = s.seqTc.inside := h.maskInside
  exact { h with
    tallyWidth := Nat.mod_lt _ (Nat.two_pow_pos _)
    maskInside := hmask.symm.trans hinside
    stopped := fun hr => by
      obtain ⟨hovie, hcnt, -, htc⟩ := h.stopped hr
      exact ⟨hovie, hcnt, rfl, htc⟩ }

theorem formattedString_length (v n m : Nat) : (formattedString v n m).length = formattedLength v n m := by
  simp [formattedString, formattedLength, Nat.add_assoc, Nat.add_comm 1]

theorem formatStep_inv {s : State} (v n m : Nat) (h : (resumeHost s).Inv) :
    (resumeHost (formatStep v n m s)).Inv := by
  unfold formatStep
  split
  next => exact { h with outFits := by simp }
  next =>
    split
    next => exact { h with outFits := by simp }
    next hcap =>
      have hsize : s.out.length = s.cfg.fmtCap := h.outSize
      have hlen : (formattedString v n m).length ≤ s.cfg.fmtCap := by
        rw [formattedString_length]
        exact Nat.le_of_not_lt hcap
      exact { h with
        outSize := by simp [hsize, hlen]
        outFits := fun _ => hlen }

theorem beginLd_inv {s : State} (op : LdOp) (h : (resumeHost s).Inv) (hf : HostFree s)
    (hp : (LdRun.start op).placed s.cfg = true) : (resumeHost (beginLd op s)).Inv := by
  obtain ⟨-, htc, -⟩ := hf
  exact { h with
    oneThread := Or.inl htc
    placed := fun r hr => by cases hr; exact hp
    pollsBelow := fun r limit hr => by cases hr; exact pos_of_pollLimit h.pollLimit_ne_zero limit }

theorem exec_inv {i : Instr} {s t : State} (h : (resumeHost s).Inv) (he : exec i s = .next t) :
    (resumeHost t).Inv := by
  cases exec_next he with
  | start src hf => exact startTimer_inv src h hf
  | sample hf hr => exact beginSample_inv h hf hr
  | tick =>
    split
    next hr => exact countTick_inv h hr
    next => exact h
  | overflow =>
    split
    next hen => exact takeOverflow_inv h hen
    next => exact h
  | format v n m => exact formatStep_inv v n m h
  | begin _ op _ hf hp => exact beginLd_inv op h hf hp
  | atOnce => exact { h with }

theorem captureStep_inside (cfg : Config) : (captureStep cfg).inside = true := by
  unfold captureStep
  split <;> rfl

/-- A micro-step of a sample sets `MASK` on entering the critical section and clears it on leaving. -/
theorem sampleStep_maskInside {s : State} (h : s.mask = s.seqTc.inside) :
    (sampleStep s).mask = (sampleStep s).seqTc.inside := by
  unfold sampleStep
  split
  case h_3 htc => rw [captureStep_inside]; simpa [htc, SeqTc.inside] using h
  all_goals simp_all [SeqTc.inside]

/-- A micro-step of a sample writes the tally latch with the tally or not at all. -/
theorem sampleStep_tL (s : State) : (sampleStep s).tL = s.tally ∨ (sampleStep s).tL = s.tL := by
  unfold sampleStep
  split
  case h_3 => exact Or.inl rfl
  all_goals exact Or.inr rfl

theorem sampleStep_inv {s : State} (h : (resumeHost s).Inv) (htc : s.seqTc ≠ .idle) :
    (resumeHost (sampleStep s)).Inv := by
  have hmask := sampleStep_maskInside (s := s) h.maskInside
  have hlatch : (sampleStep s).tL < 2 ^ s.cfg.tallyWidth := by
    rcases sampleStep_tL s with heq | heq <;> rw [heq]
    · exact h.tallyWidth
    · exact h.latchWidth
  have hld : s.seqLd = .idle := h.oneThread.resolve_left htc
  rw [sampleStep_frame]
  exact { h with
    latchWidth := hlatch
    maskInside := hmask
    oneThread := Or.inr hld
    stopped := fun hr => absurd (h.stopped hr).2.2.2 htc }

/-- Outside unit LD and the peers nothing moves, so what is left of the invariant is the place and DDRAM. -/
theorem SameOutsideLd.inv {s t : State} (hout : SameOutsideLd s t) (h : (resumeHost s).Inv) (htc : s.seqTc = .idle)
    (hseq : OnSequence t) (hwf : Memory.wf t.ctrl.ddram) : (resumeHost t).Inv := by
  have hcfg := hout.cfg
  unfold OnSequence at hseq
  rw [hcfg] at hseq
  rw [hout]
  exact { h with
    oneThread := Or.inl htc
    placed := fun r hr => (hseq r hr).placed
    pollsBelow := fun r limit hr => (hseq r hr).pollsBelow limit
    ddramWf := hwf }

theorem hostStep_inv {ans : Answer} {s t : State} (h : (resumeHost s).Inv) (hstep : hostStep ans s = .next t) :
    (resumeHost t).Inv := by
  obtain ⟨-, -, rfl⟩ | ⟨htc, rfl⟩ | ⟨htc, r, hld, hr⟩ := hostStep_cases hstep
  · exact h
  · exact sampleStep_inv h htc
  · obtain ⟨hout, -, hwf⟩ := ldStep_next hr
    have hlim : s.cfg.pollLimit ≠ some 0 := h.pollLimit_ne_zero
    have hrun : r.OnSequence s.cfg := h.onSequence r hld
    exact hout.inv h htc (ldStep_onSequence hlim hrun hr) (hwf h.ddramWf)

/-- Settles O55: an instruction, a host step of the operation in flight and the controller finishing keep the invariant,
and the schedule is no part of it. -/
theorem stepKeepsInvariant : Obligations.StepKeepsInvariant := by
  intro s t h hstep
  cases step_next hstep with
  | idle => exact h
  | request who fmt bytes rest i tail u _ _ hu => exact exec_inv (h.resumeHost_openStep who rest) hu
  | proceed ans rest u _ hu => exact hostStep_inv (h.resumeHost_openStep .host rest) hu
  | ready rest => exact resumeHost_controllerReady_inv (h.resumeHost_openStep .host rest)

theorem closeStep_ne_fault {o : Outcome} {f : Fault} (h : o ≠ .fault f) : closeStep o ≠ .fault f := by
  cases o with
  | next u => simp [closeStep]
  | fault r => exact h
  | refused r => simp [closeStep]

theorem hostStep_ne_fault {s : State} (ans : Answer) (f : Fault) (h : OnSequence s) : hostStep ans s ≠ .fault f := by
  unfold hostStep
  split
  next =>
    split
    next => simp
    next r hld => exact ldStep_ne_fault ans f (h r hld).placed
  next => simp

/-- Settles O56: the one fault is that of a place the operation in flight does not have, which the invariant rules
out. -/
theorem noStepFaults : Obligations.NoStepFaults := by
  intro s f h
  unfold step
  split
  next => simp
  next =>
    split
    next => exact closeStep_ne_fault (exec_ne_fault _ _ f)
    next => simp
  next rest _ => exact closeStep_ne_fault (hostStep_ne_fault _ f (s := openStep .host rest s) h.onSequence)
  next => simp [closeStep]

end Sys2Proof.Machine

/-! ### Memory and the bus (spec 20_memory.md): the critical section, what a step does on the bus -/

namespace Sys2Proof.Machine

/-! #### The critical section (rules R61 to R63) -/

theorem State.Inv.handler_masked {s : State} (h : s.Inv) (hin : s.seqTc.inside = true) : handlerEnabled s = false := by
  simp [handlerEnabled, h.maskInside, hin]

/-- A step that runs `TC.START` finds the host thread free: it is not admitted during an operation. -/
theorem step_start_seqTc {s t : State} {who : Agent} {src : ClockSource} (h : step s = .next t)
    (hreq : requested s = some (who, .tcStart src)) : s.seqTc = .idle := by
  cases step_next h with
  | idle hs => simp [requested, hs] at hreq
  | request _ fmt bytes rest i tail u hs hd hu =>
    rw [requested_eq hs hd] at hreq
    cases hreq
    obtain ⟨⟨-, htc, -⟩, -⟩ := hostOperation_next hu
    exact htc
  | proceed ans rest u hs => simp [requested, hs] at hreq
  | ready rest hs => simp [requested, hs] at hreq

/-- Settles O21: of the writers of the tally and `OVF` the handler is masked and `TC.START` is not admitted, and a tick
clears nothing. -/
theorem criticalSectionExcludesHandler : Obligations.CriticalSectionExcludesHandler := by
  intro s t hinv hin h
  cases step_timerStep h with
  | kept hk =>
    obtain ⟨-, htally, hovf, -⟩ := hk
    exact ⟨htally, fun hp => hovf.trans hp⟩
  | tick _ _ hk =>
    obtain ⟨-, htally, hovf, -⟩ := hk
    refine ⟨htally, fun hp => ?_⟩
    rw [hovf, countTick_ovf, hp, ovfAfterTick_of_pending]
  | overflow _ he => simp [hinv.handler_masked hin] at he
  | start src hreq => simp [step_start_seqTc h hreq, SeqTc.inside] at hin

/-! #### What a step does on the bus (rules R41 to R43, R56, R57) -/

/-- The event of a write (rule R41). -/
def writeEvent (cfg : Config) (b : Byte) : Answer → Event
  | .ok _ => .wrote cfg.lcdAddr b
  | .fail _ => .writeFailed cfg.lcdAddr b

/-- A write is its event, and beside the lines and the controller nothing changes. -/
theorem busWrite_frame (b : Byte) (ans : Answer) (s : State) :
    busWrite b ans s =
      { s with
        lines := (busWrite b ans s).lines, ctrl := (busWrite b ans s).ctrl, draws := (busWrite b ans s).draws
        trace := s.trace ++ [writeEvent s.cfg b ans] } := by
  cases ans with
  | ok v =>
    have h : SamePeersApart s (controllerEdge s.lines b s) := controllerEdge_peers s.lines b s
    unfold SamePeersApart at h
    simp only [busWrite, emit, writeEvent]
    rw [h]
  | fail l =>
    simp only [busWrite, emit, drawController, writeEvent]
    split <;> rfl

theorem busWrite_trace (b : Byte) (ans : Answer) (s : State) :
    (busWrite b ans s).trace = s.trace ++ [writeEvent s.cfg b ans] := by
  rw [busWrite_frame]

/-- The bridge and the controller are as they were. -/
def SamePeers (s t : State) : Prop := t.lines = s.lines ∧ t.ctrl = s.ctrl

/-- One event, with what it says of the peers: a byte written stands on the lines, a read and a delay move nothing. -/
inductive BusEvent (s t : State) : Prop
  | wrote (b : Byte) : t.trace = s.trace ++ [.wrote s.cfg.lcdAddr b] → t.lines = b → BusEvent s t
  | writeFailed (b : Byte) : t.trace = s.trace ++ [.writeFailed s.cfg.lcdAddr b] → BusEvent s t
  | read (b : Byte) : t.trace = s.trace ++ [.read s.cfg.lcdAddr b] → SamePeers s t → BusEvent s t
  | readFailed : t.trace = s.trace ++ [.readFailed s.cfg.lcdAddr] → SamePeers s t → BusEvent s t
  | delay (us : Nat) : t.trace = s.trace ++ [.delay us] → SamePeers s t → BusEvent s t

/-- What a step can do on the bus: nothing, the controller finishing, or one event. -/
inductive BusStep (s t : State) : Prop
  | quiet : t.trace = s.trace → SamePeers s t → BusStep s t
  | ready (rest : List Slot) : s.schedule = .ready :: rest → t.trace = s.trace → t.lines = s.lines → BusStep s t
  | event : BusEvent s t → BusStep s t

theorem busEvent_of_write {s t : State} {b : Byte} {ans : Answer} (h : SameButWait (busWrite b ans s) t) :
    BusEvent s t := by
  have htrace := h.trace.trans (busWrite_trace b ans s)
  cases ans with
  | ok v => exact .wrote b htrace (h.lines.trans (busWrite_lines b (.ok v) s))
  | fail l => exact .writeFailed b htrace

theorem busEvent_of_delay {s t : State} {us : Nat} (h : SameButSequencer (delay us s) t) : BusEvent s t :=
  .delay us h.trace ⟨h.lines, h.ctrl⟩

theorem readStep_busEvent (r : LdRun) (half : Half) (ans : Answer) (s : State) :
    BusEvent s (readStep r half ans s) := by
  have hpeers : SamePeers s (readStep r half ans s) := by
    rw [readStep_frame]
    exact ⟨busRead_lines ans s, busRead_ctrl ans s⟩
  have htrace : (readStep r half ans s).trace = (busRead ans s).trace := by rw [readStep_frame]
  cases ans with
  | ok v => exact .read (busReadByte v s) htrace hpeers
  | fail l => exact .readFailed htrace hpeers

/-- Every host step of unit LD is one event. -/
theorem ldStep_busEvent {r : LdRun} {ans : Answer} {s t : State} (h : ldStep r ans s = .next t) : BusEvent s t := by
  unfold ldStep at h
  split at h
  next =>
    split at h
    next => cases h
    next => cases h; exact busEvent_of_write (phaseStep_frame _ _ _ _ _ _ _).wait
  next =>
    split at h
    next => cases h
    next => cases h; exact busEvent_of_delay (afterPhase_frame _ _ _ _ _)
  next => cases h; exact busEvent_of_write (probeStep_frame _ _ _ _ _)
  next half _ => cases h; exact readStep_busEvent r half ans s
  next => cases h; exact busEvent_of_delay (afterCommand_frame _ _)

/-- No instruction is a bus event: unit LD's begin an operation or return, and its host steps make the transfers. -/
theorem exec_quiet {i : Instr} {s t : State} (h : exec i s = .next t) : t.trace = s.trace ∧ SamePeers s t := by
  cases exec_next h with
  | start => exact ⟨rfl, rfl, rfl⟩
  | sample => exact ⟨rfl, rfl, rfl⟩
  | tick => split <;> exact ⟨rfl, rfl, rfl⟩
  | overflow => split <;> exact ⟨rfl, rfl, rfl⟩
  | format v n m =>
    obtain ⟨o, l, k, r, hf⟩ := formatStep_frame v n m s
    rw [hf]
    exact ⟨rfl, rfl, rfl⟩
  | begin => exact ⟨rfl, rfl, rfl⟩
  | atOnce => exact ⟨rfl, rfl, rfl⟩

theorem BusEvent.resumeHost_openStep {s u : State} {who : Agent} {rest : List Slot}
    (h : BusEvent (openStep who rest s) u) : BusEvent s (resumeHost u) := by
  cases h with
  | wrote b ht hl => exact .wrote b ht hl
  | writeFailed b ht => exact .writeFailed b ht
  | read b ht hp => exact .read b ht hp
  | readFailed ht hp => exact .readFailed ht hp
  | delay us ht hp => exact .delay us ht hp

/-- One inversion lemma for what `step` does on the bus. -/
theorem step_busStep {s t : State} (h : step s = .next t) : BusStep s t := by
  cases step_next h with
  | idle => exact .quiet rfl ⟨rfl, rfl⟩
  | request who fmt bytes rest i tail u _ _ hu =>
    obtain ⟨htrace, hpeers⟩ := exec_quiet hu
    exact .quiet htrace hpeers
  | proceed ans rest u _ hu =>
    obtain ⟨-, -, rfl⟩ | ⟨-, rfl⟩ | ⟨-, r, -, hr⟩ := hostStep_cases hu
    · exact .quiet rfl ⟨rfl, rfl⟩
    · rw [sampleStep_frame]
      exact .quiet rfl ⟨rfl, rfl⟩
    · exact .event (ldStep_busEvent hr).resumeHost_openStep
  | ready rest hs => exact .ready rest hs rfl rfl

/-- Settles O42: a step is quiet on the bus or is one of the five events. -/
theorem oneBusEventPerStep : Obligations.OneBusEventPerStep := by
  intro s t h
  cases step_busStep h with
  | quiet ht => exact Or.inl ht
  | ready _ _ ht => exact Or.inl ht
  | event he =>
    right
    cases he with
    | wrote b ht => exact ⟨_, ht, by simp⟩
    | writeFailed b ht => exact ⟨_, ht, by simp⟩
    | read b ht => exact ⟨_, ht, by simp⟩
    | readFailed ht => exact ⟨_, ht, by simp⟩
    | delay us ht => exact ⟨_, ht, by simp⟩

/-- Settles O49: of the things a step can do on the bus, the two writes alone move the lines, and a byte written stands
on them. -/
theorem linesFollowWrites : Obligations.LinesFollowWrites := by
  intro s t h
  cases step_busStep h with
  | quiet ht hp => simp [ht, hp.1]
  | ready _ _ ht hl => simp [ht, hl]
  | event he =>
    cases he with
    | wrote b ht hl => simp [ht, hl]
    | writeFailed b ht => simp [ht]
    | read b ht hp => simp [ht, hp.1]
    | readFailed ht hp => simp [ht, hp.1]
    | delay us ht hp => simp [ht, hp.1]

/-- Settles O50: a read leaves the bridge and the controller, and of the things a step can do on the bus the ready entry
and the two writes alone move the controller. -/
theorem readsMoveNoPeer : Obligations.ReadsMoveNoPeer := by
  intro s t h
  cases step_busStep h with
  | quiet ht hp => simp [ht, hp.2]
  | ready rest hs ht => simp [ht, hs]
  | event he =>
    cases he with
    | wrote b ht => simp [ht]
    | writeFailed b ht => simp [ht]
    | read b ht hp => simp [hp.1, hp.2]
    | readFailed ht hp => simp [ht, hp.2]
    | delay us ht hp => simp [ht, hp.2]

end Sys2Proof.Machine

/-! ### Memory and the bus: runs of a unit LD operation on the bare oracle (spec 20_memory.md rules R42, R62; rules R142,
R144, R167) -/

namespace Sys2Proof.Machine

/-! #### An operation under way -/

/-- `t` is `s` some host steps of unit LD on: the bytes `b1` and `b2` latched, the events `es` added and `rest` to come.
The sequencer and the peers may have moved in any way; all else is as in `s`, where no sample runs. -/
structure UnderWay (s : State) (b1 b2 : Byte) (es : List Event) (rest : List Slot) (t : State) : Prop where
  noSample : s.seqTc = .idle
  eq : ∃ (seqLd : SeqLd) (lines : Byte) (ctrl : Controller) (draws : Nat), t = { s with
    seqLd := seqLd, b1 := b1, b2 := b2, lines := lines, ctrl := ctrl, agent := .host, trace := s.trace ++ es
    schedule := rest, draws := draws }

theorem steps_succ_of_step {k : Nat} {s t : State} (h : step s = .next t) : steps (k + 1) s = steps k t := by
  simp [steps, h]

theorem busyOf_statusByte (b1 b2 : Byte) : busyOf (statusByte b1 b2) = b1.getLsbD 7 := by
  rw [busyOf, statusByte, upperNibble, BitVec.getLsbD_append]
  simp

theorem busReadByte_bareOracle {s : State} (v : Byte) (hpath : s.cfg.readPath = .bareOracle) :
    busReadByte v s = v := by
  simp [busReadByte, readValue, hpath]

/-- The first latch after a half of a status byte is read (rule R144). -/
def Half.intoB1 (half : Half) (v b1 : Byte) : Byte := match half with | .upper => v | .lower => b1

/-- The second latch after a half of a status byte is read (rule R144). -/
def Half.intoB2 (half : Half) (v b2 : Byte) : Byte := match half with | .upper => b2 | .lower => v

/-- The run some transfers on, at another place. -/
def LdRun.passed (n : Nat) (p : Place) (r : LdRun) : LdRun := { r with place := p, transfers := r.transfers + n }

/-- The run some busy status reads on, at the next one. -/
def LdRun.polled (k : Nat) (r : LdRun) : LdRun :=
  { r with place := .probe .upper .one, polls := r.polls + k, transfers := r.transfers + 8 * k }

theorem LdRun.polled_zero {r : LdRun} (hp : r.place = .probe .upper .one) : r.polled 0 = r := by
  simp [LdRun.polled, ← hp]

theorem LdRun.polled_polled (j k : Nat) (r : LdRun) : (r.polled j).polled k = r.polled (j + k) := by
  simp [LdRun.polled, Nat.add_assoc, Nat.mul_add]

section
variable {s t : State} {r : LdRun} {b1 b2 v : Byte} {es : List Event} {rest : List Slot}

theorem UnderWay.cfg (h : UnderWay s b1 b2 es rest t) : t.cfg = s.cfg := by
  obtain ⟨-, q, l, c, d, rfl⟩ := h
  rfl

theorem UnderWay.trace (h : UnderWay s b1 b2 es rest t) : t.trace = s.trace ++ es := by
  obtain ⟨-, q, l, c, d, rfl⟩ := h
  rfl

theorem UnderWay.schedule (h : UnderWay s b1 b2 es rest t) : t.schedule = rest := by
  obtain ⟨-, q, l, c, d, rfl⟩ := h
  rfl

theorem UnderWay.busyOf_eq (h : UnderWay s b1 b2 es rest t) : busyOf (statusByte t.b1 t.b2) = b1.getLsbD 7 := by
  obtain ⟨-, q, l, c, d, rfl⟩ := h
  exact busyOf_statusByte b1 b2

/-- An operation just issued is under way. -/
theorem underWay_scheduled (op : LdOp) (k : Nat) (ans : Answer) (rest : List Slot) (hf : HostFree s) :
    UnderWay (beginLd op s) s.b1 s.b2 [] (List.replicate k (.proceed ans) ++ rest)
      ((beginLd op s).scheduled k ans rest) := by
  obtain ⟨ha, htc, -⟩ := hf
  exact ⟨htc, .active (LdRun.start op), s.lines, s.ctrl, s.draws, by simp [State.scheduled, beginLd, ha]⟩

theorem UnderWay.setRun (h : UnderWay s b1 b2 es rest t) (r : LdRun) :
    UnderWay s b1 b2 es rest (resumeHost (setRun r t)) := by
  obtain ⟨htc, q, l, c, d, rfl⟩ := h
  exact ⟨htc, _, l, c, d, rfl⟩

theorem UnderWay.openStep {e : Slot} (h : UnderWay s b1 b2 es (e :: rest) t) :
    UnderWay s b1 b2 es rest (openStep .host rest t) := by
  obtain ⟨htc, q, l, c, d, rfl⟩ := h
  exact ⟨htc, q, l, c, d, rfl⟩

theorem UnderWay.busWrite (h : UnderWay s b1 b2 es rest t) (b v : Byte) :
    UnderWay s b1 b2 (es ++ [.wrote s.cfg.lcdAddr b]) rest (busWrite b (.ok v) t) := by
  obtain ⟨htc, q, l, c, d, rfl⟩ := h
  rw [busWrite_frame, List.append_assoc]
  exact ⟨htc, q, _, _, _, rfl⟩

theorem UnderWay.busRead (h : UnderWay s b1 b2 es rest t) (v : Byte) (hpath : s.cfg.readPath = .bareOracle) :
    UnderWay s b1 b2 (es ++ [.read s.cfg.lcdAddr v]) rest (busRead (.ok v) t) := by
  have hbyte : busReadByte v t = v := busReadByte_bareOracle v (h.cfg ▸ hpath)
  have hread : Machine.busRead (.ok v) t = emit (.read s.cfg.lcdAddr v) t := by
    simp only [Machine.busRead, hbyte, h.cfg]
  rw [hread]
  obtain ⟨htc, q, l, c, d, rfl⟩ := h
  rw [emit, List.append_assoc]
  exact ⟨htc, q, l, c, d, rfl⟩

theorem UnderWay.latchStatus (h : UnderWay s b1 b2 es rest t) (half : Half) (v : Byte) :
    UnderWay s (half.intoB1 v b1) (half.intoB2 v b2) es rest (latchStatus half v t) := by
  obtain ⟨htc, q, l, c, d, rfl⟩ := h
  cases half <;> exact ⟨htc, q, l, c, d, rfl⟩

/-! #### Single steps -/

/-- The next host entry is a step of the operation under way. -/
theorem UnderWay.step_eq {ans : Answer} (h : UnderWay s b1 b2 es (.proceed ans :: rest) t)
    (hr : t.seqLd = .active r) : step t = closeStep (ldStep r ans (Machine.openStep .host rest t)) := by
  obtain ⟨htc, q, l, c, d, rfl⟩ := h
  simp_all [step, hostStep, Machine.openStep]

/-- A write phase of a command without delays (rule R141). -/
theorem UnderWay.step_phase {g : Nat} {ph : Phase} {c : Command} {nib : Nibble}
    (h : UnderWay s b1 b2 es (.proceed (.ok v) :: rest) t) (hr : t.seqLd = .active r) (hp : r.place = .phase g ph)
    (hn : r.nibble s.cfg g = some (c, nib)) (hs : spaced c = false) :
    ∃ w, step t = .next (resumeHost (afterPhase r.counted c g ph w)) ∧
      UnderWay s b1 b2 (es ++ [.wrote s.cfg.lcdAddr (pack s.cfg nib c.rs false ph.enable)]) rest w := by
  refine ⟨_, ?_, h.openStep.busWrite _ v⟩
  rw [h.step_eq hr]
  simp [ldStep, hp, h.cfg, hn, phaseStep, afterWrite, Answer.isOk, hs, closeStep]

/-- A probe write of a status read (rule R144). -/
theorem UnderWay.step_probe {half : Half} {ph : Phase} (h : UnderWay s b1 b2 es (.proceed (.ok v) :: rest) t)
    (hr : t.seqLd = .active r) (hp : r.place = .probe half ph) :
    ∃ w, step t = .next (resumeHost (afterProbe r.counted half ph w)) ∧
      UnderWay s b1 b2 (es ++ [.wrote s.cfg.lcdAddr (probeByte s.cfg ph)]) rest w := by
  refine ⟨_, ?_, h.openStep.busWrite _ v⟩
  rw [h.step_eq hr]
  simp [ldStep, hp, h.cfg, probeStep, afterWrite, Answer.isOk, closeStep]

/-- A read of a status read (rules R42, R144). -/
theorem UnderWay.step_read {half : Half} (h : UnderWay s b1 b2 es (.proceed (.ok v) :: rest) t)
    (hr : t.seqLd = .active r) (hp : r.place = .read half) (hpath : s.cfg.readPath = .bareOracle) :
    ∃ w, step t = .next (resumeHost (Machine.setRun (r.counted.goTo (.probe half .three)) w)) ∧
      UnderWay s (half.intoB1 v b1) (half.intoB2 v b2) (es ++ [.read s.cfg.lcdAddr v]) rest w := by
  have hbyte : busReadByte v (Machine.openStep .host rest t) = v :=
    busReadByte_bareOracle v (h.openStep.cfg ▸ hpath)
  refine ⟨_, ?_, (h.openStep.busRead v hpath).latchStatus half v⟩
  rw [h.step_eq hr]
  simp [ldStep, hp, readStep, hbyte, closeStep]

/-! #### Sending a command -/

/-- One nibble group of a command without delays: three writes (rule R82), then what follows the last phase. -/
theorem UnderWay.steps_group {g : Nat} {c : Command} {nib : Nibble}
    (h : UnderWay s b1 b2 es (List.replicate 3 (.proceed (.ok v)) ++ rest) t) (hr : t.seqLd = .active r)
    (hp : r.place = .phase g .one) (hn : r.nibble s.cfg g = some (c, nib)) (hs : spaced c = false) :
    ∃ w, steps 3 t = .next (resumeHost (afterPhase (r.passed 3 (.phase g .three)) c g .three w)) ∧
      UnderWay s b1 b2 (es ++ (nibbleGroup s.cfg nib c.rs false).map (.wrote s.cfg.lcdAddr)) rest w := by
  obtain ⟨w₁, h₁, u₁⟩ := h.step_phase hr hp hn hs
  obtain ⟨w₂, h₂, u₂⟩ := (u₁.setRun (r.counted.goTo (.phase g .two))).step_phase rfl rfl hn hs
  obtain ⟨w₃, h₃, u₃⟩ := (u₂.setRun (r.counted.counted.goTo (.phase g .three))).step_phase rfl rfl hn hs
  refine ⟨w₃, (steps_succ_of_step h₁).trans ((steps_succ_of_step h₂).trans (steps_succ_of_step h₃)), ?_⟩
  simpa [nibbleGroup, Phase.enable] using u₃

theorem sentNibbles_of_not_spaced {c : Command} (cfg : Config) (hs : spaced c = false) :
    sentNibbles cfg c = [upperNibble (c.payload cfg.fsLayout), lowerNibble (c.payload cfg.fsLayout)] := by
  cases c with
  | functionSet => simp [spaced] at hs
  | _ => rfl

/-- `SEND` of a command without delays (rule R142): six writes, then what follows the command. -/
theorem UnderWay.steps_send {c : Command}
    (h : UnderWay s b1 b2 es (List.replicate 6 (.proceed (.ok v)) ++ rest) t) (hr : t.seqLd = .active r)
    (hp : r.place = .phase 0 .one) (hc : r.command s.cfg = some c) (hs : spaced c = false) :
    ∃ w, steps 6 t = .next (resumeHost (afterSend (r.passed 6 (.phase 1 .three)) c w)) ∧
      UnderWay s b1 b2 (es ++ sendEvents s.cfg c) rest w := by
  have hnibs := sentNibbles_of_not_spaced s.cfg hs
  obtain ⟨w₁, h₁, u₁⟩ := h.steps_group (rest := List.replicate 3 (.proceed (.ok v)) ++ rest) hr hp
    (nibble_eq_some.2 ⟨hc, by rw [hnibs]; rfl⟩) hs
  have hnext : afterPhase (r.passed 3 (.phase 0 .three)) c 0 .three w₁ =
      Machine.setRun (r.passed 3 (.phase 1 .one)) w₁ := by
    simp [afterPhase, u₁.cfg, hnibs, LdRun.goTo, LdRun.passed]
  rw [hnext] at h₁
  obtain ⟨w₂, h₂, u₂⟩ := (u₁.setRun (r.passed 3 (.phase 1 .one))).steps_group
    (rest := rest) rfl rfl (nibble_eq_some.2 ⟨hc, by rw [hnibs]; rfl⟩) hs
  have hlast : ∀ q, afterPhase q c 1 .three w₂ = afterSend q c w₂ := by
    simp [afterPhase, u₂.cfg, hnibs]
  rw [hlast] at h₂
  refine ⟨w₂, (steps_add 3 3 _ _ h₁).trans h₂, ?_⟩
  simpa [sendEvents, busSequence, hnibs, hs, nibbleGroup] using u₂

/-! #### The status read -/

/-- One half of a status read: two writes, the read and the third write (rule R144), then what follows it. -/
theorem UnderWay.steps_half {half : Half}
    (h : UnderWay s b1 b2 es (List.replicate 4 (.proceed (.ok v)) ++ rest) t) (hr : t.seqLd = .active r)
    (hp : r.place = .probe half .one) (hpath : s.cfg.readPath = .bareOracle) :
    ∃ w, steps 4 t = .next (resumeHost (afterProbe (r.passed 4 (.probe half .three)) half .three w)) ∧
      UnderWay s (half.intoB1 v b1) (half.intoB2 v b2)
        (es ++ [.wrote s.cfg.lcdAddr (probeByte s.cfg .one), .wrote s.cfg.lcdAddr (probeByte s.cfg .two),
          .read s.cfg.lcdAddr v, .wrote s.cfg.lcdAddr (probeByte s.cfg .three)]) rest w := by
  obtain ⟨w₁, h₁, u₁⟩ := h.step_probe hr hp
  obtain ⟨w₂, h₂, u₂⟩ := (u₁.setRun (r.counted.goTo (.probe half .two))).step_probe rfl rfl
  obtain ⟨w₃, h₃, u₃⟩ := (u₂.setRun (r.counted.counted.goTo (.read half))).step_read rfl rfl hpath
  obtain ⟨w₄, h₄, u₄⟩ := (u₃.setRun (r.counted.counted.counted.goTo (.probe half .three))).step_probe rfl rfl
  refine ⟨w₄, (steps_succ_of_step h₁).trans ((steps_succ_of_step h₂).trans ((steps_succ_of_step h₃).trans
    (steps_succ_of_step h₄))), ?_⟩
  simpa using u₄

/-- A whole status read answered `v` (rule R144): both latches hold `v`, and its end follows. -/
theorem UnderWay.steps_status
    (h : UnderWay s b1 b2 es (List.replicate 8 (.proceed (.ok v)) ++ rest) t) (hr : t.seqLd = .active r)
    (hp : r.place = .probe .upper .one) (hpath : s.cfg.readPath = .bareOracle) :
    ∃ w, steps 8 t = .next (resumeHost (afterStatus (r.passed 8 (.probe .lower .three)) w)) ∧
      UnderWay s v v (es ++ statusEvents s.cfg v v) rest w := by
  obtain ⟨w₁, h₁, u₁⟩ := h.steps_half (rest := List.replicate 4 (.proceed (.ok v)) ++ rest) hr hp hpath
  obtain ⟨w₂, h₂, u₂⟩ := (u₁.setRun (r.passed 4 (.probe .lower .one))).steps_half (rest := rest) rfl rfl hpath
  refine ⟨w₂, (steps_add 4 4 _ _ h₁).trans h₂, ?_⟩
  simpa [statusEvents, Half.intoB1, Half.intoB2] using u₂

/-! #### The busy wait (rule R167) -/

/-- The wait has `k` busy answers left before `POLL_LIMIT`, if there is one. -/
def LdRun.PollsLeft (cfg : Config) (r : LdRun) (k : Nat) : Prop :=
  ∀ limit, cfg.pollLimit = some limit → r.polls + k < limit

theorem afterStatus_busy (hop : r.op ≠ .status) (hb : busyOf (statusByte t.b1 t.b2) = true)
    (hpolls : r.PollsLeft t.cfg 1) :
    afterStatus r t = Machine.setRun { r with polls := r.polls + 1, place := .probe .upper .one } t := by
  unfold afterStatus
  split
  next ho => exact absurd ho hop
  next =>
    rw [if_neg (by simp [hb])]
    split
    next limit hl => rw [if_neg (Nat.not_le.2 (hpolls limit hl))]
    next => rfl

/-- A wait answered busy `k` times has made `k` status reads and stands at the next. -/
theorem UnderWay.steps_busy (k : Nat)
    (h : UnderWay s b1 b2 es (List.replicate (8 * k) (.proceed (.ok v)) ++ rest) t) (hr : t.seqLd = .active r)
    (hp : r.place = .probe .upper .one) (hop : r.op ≠ .status) (hpath : s.cfg.readPath = .bareOracle)
    (hv : v.getLsbD 7 = true) (hpolls : r.PollsLeft s.cfg k) :
    ∃ w c1 c2, steps (8 * k) t = .next w ∧ w.seqLd = .active (r.polled k) ∧
      UnderWay s c1 c2 (es ++ (List.replicate k (statusEvents s.cfg v v)).flatten) rest w := by
  induction k generalizing t r b1 b2 es with
  | zero => exact ⟨t, b1, b2, rfl, by rw [LdRun.polled_zero hp, hr], by simpa using h⟩
  | succ k ih =>
    rw [Nat.mul_succ, Nat.add_comm, List.replicate_add, List.append_assoc] at h
    obtain ⟨w₁, h₁, u₁⟩ := h.steps_status hr hp hpath
    have hfirst : (r.passed 8 (.probe .lower .three)).PollsLeft w₁.cfg 1 := by
      intro limit hl
      have hk : r.polls + (k + 1) < limit := hpolls limit (u₁.cfg ▸ hl)
      change r.polls + 1 < limit
      omega
    have hothers : (r.polled 1).PollsLeft s.cfg k := by
      intro limit hl
      have hk : r.polls + (k + 1) < limit := hpolls limit hl
      change r.polls + 1 + k < limit
      omega
    rw [afterStatus_busy (r := r.passed 8 (.probe .lower .three)) hop (u₁.busyOf_eq.trans hv) hfirst] at h₁
    obtain ⟨w₂, c1, c2, h₂, hr₂, u₂⟩ := ih (u₁.setRun (r.polled 1)) rfl rfl hop hothers
    refine ⟨w₂, c1, c2, ?_, ?_, ?_⟩
    · rw [Nat.mul_succ, Nat.add_comm]
      exact (steps_add 8 (8 * k) _ _ h₁).trans h₂
    · rw [hr₂, LdRun.polled_polled, Nat.add_comm]
    · simpa [List.replicate_succ] using u₂

/-- A wait that is answered not busy ends: the controller has completed its command (rule R62), and what follows the
command comes next. -/
theorem UnderWay.steps_waitEnds
    (h : UnderWay s b1 b2 es (List.replicate 8 (.proceed (.ok v)) ++ rest) t) (hr : t.seqLd = .active r)
    (hp : r.place = .probe .upper .one) (hop : r.op ≠ .status) (hpath : s.cfg.readPath = .bareOracle)
    (hv : v.getLsbD 7 = false) :
    ∃ w, steps 8 t =
        .next (resumeHost (afterCommand (r.passed 8 (.probe .lower .three)) (controllerReady w))) ∧
      UnderWay s v v (es ++ statusEvents s.cfg v v) rest w := by
  obtain ⟨w, h₁, u⟩ := h.steps_status hr hp hpath
  rw [afterStatus_ends (r.passed 8 (.probe .lower .three)) w hop (u.busyOf_eq.trans hv)] at h₁
  exact ⟨w, h₁, u⟩

/-! #### `LD.CLEAR` -/

theorem afterSend_clearDisplay_poll (hop : r.op = .clear) (hpoll : t.cfg.longWait = .poll) :
    afterSend r .clearDisplay t = Machine.setRun r.startPoll t := by
  simp [afterSend, hop, hpoll]

theorem afterCommand_clear (hop : r.op = .clear) : afterCommand r t = finishLd .ok t := by
  simp [afterCommand, hop, LdOp.commands, LdOp.finalResult]

end

/-- Settles O38: the six writes of ClearDisplay, the busy status reads and the last one follow each other, and the last
ends the wait of the operation's one command. -/
theorem busyWaitEnds : Obligations.BusyWaitEnds := by
  intro s v w k rest hf hpath hv hw hpoll hlimit
  let r : LdRun := ((LdRun.start .clear).passed 6 (.phase 1 .three)).startPoll
  have h₀ := underWay_scheduled .clear (6 + 8 * k) (.ok v) (List.replicate 8 (.proceed (.ok w)) ++ rest) hf
  rw [List.replicate_add, List.append_assoc] at h₀
  obtain ⟨t₁, h₁, u₁⟩ := h₀.steps_send (c := .clearDisplay) rfl rfl rfl rfl
  rw [afterSend_clearDisplay_poll rfl (u₁.cfg ▸ hpoll)] at h₁
  have hop : LdOp.clear ≠ .status := by decide
  have hpolls : r.PollsLeft s.cfg k := fun limit hl => (Nat.zero_add k).symm ▸ hlimit limit hl
  obtain ⟨t₂, c1, c2, h₂, hr₂, u₂⟩ := (u₁.setRun r).steps_busy k rfl rfl hop hpath hv hpolls
  obtain ⟨t₃, h₃, u₃⟩ := u₂.steps_waitEnds hr₂ rfl hop hpath hw
  rw [afterCommand_clear rfl] at h₃
  refine ⟨beginLd .clear s, resumeHost (finishLd .ok (controllerReady t₃)), hostOperation_free _ hf, ?_, rfl, rfl,
    u₃.schedule, rfl, ?_⟩
  · rw [Nat.add_assoc]
    exact (steps_add 6 _ _ _ h₁).trans ((steps_add (8 * k) 8 _ _ h₂).trans h₃)
  · simpa using u₃.trace

end Sys2Proof.Machine

/-! ### Encoding (spec 30_encoding.md): natural numbers, command words and requests read back -/

namespace Sys2Proof

/-! #### Operands after a selector (log entry 6) -/

/-- The last byte of a number has bit 7 clear. -/
theorem decodeNat_lastByte {n : Nat} (rest : List Byte) (h : n < 128) :
    decodeNat (BitVec.ofNat 8 n :: rest) = some (n, rest) := by
  have hbyte : n % 256 = n := Nat.mod_eq_of_lt (by omega)
  simp [decodeNat, hbyte, h]

/-- A byte with bit 7 set holds the low seven bits of a number; the bytes after it hold the rest. -/
theorem decodeNat_moreBytes {n : Nat} {bs rest : List Byte} (h : decodeNat bs = some (n / 128, rest)) :
    decodeNat (BitVec.ofNat 8 (n % 128 + 128) :: bs) = some (n, rest) := by
  have hbyte : (BitVec.ofNat 8 (n % 128 + 128)).toNat = n % 128 + 128 := Nat.mod_eq_of_lt (by omega)
  simp [decodeNat, hbyte, h, Nat.div_add_mod']

/-- Fuel for every seven bits of the number is enough to write it so that it reads back. -/
theorem decodeNat_natBytes (fuel n : Nat) (rest : List Byte) (h : n < 128 ^ (fuel + 1)) :
    decodeNat (natBytes fuel n ++ rest) = some (n, rest) := by
  induction fuel generalizing n with
  | zero =>
    rw [natBytes, Nat.mod_eq_of_lt (by simpa using h)]
    exact decodeNat_lastByte rest h
  | succ fuel ih =>
    rw [natBytes]
    split
    next hlast => exact decodeNat_lastByte rest hlast
    next => exact decodeNat_moreBytes (ih _ (Nat.div_lt_of_lt_mul (by rwa [← Nat.pow_succ'])))

theorem decodeNat_encodeNat (n : Nat) (rest : List Byte) : decodeNat (encodeNat n ++ rest) = some (n, rest) := by
  apply decodeNat_natBytes
  calc
    n < 2 ^ (n.log2 + 1) := Nat.lt_log2_self
    _ ≤ 128 ^ (n.log2 + 1) := Nat.pow_le_pow_left (by decide) _

theorem decodeText_encodeText (text rest : List Byte) : decodeText (encodeText text ++ rest) = some (text, rest) := by
  simp [encodeText, decodeText, decodeNat_encodeNat]

theorem decodeFormat_encodeNat (v n m : Nat) (rest : List Byte) :
    decodeFormat (encodeNat v ++ encodeNat n ++ encodeNat m ++ rest) = .ok (.fmtFormat v n m) rest := by
  simp [decodeFormat, List.append_assoc, decodeNat_encodeNat]

/-- The six bits above a command word are 0 in its two bytes. -/
theorem decodeWordBytes_wordBytes (w : CommandWord) (rest : List Byte) :
    decodeWordBytes (wordBytes w ++ rest) = some (0#6 ++ w, rest) := by
  have hjoin : 0#6 ++ w.extractLsb' 8 2 ++ w.extractLsb' 0 8 = 0#6 ++ w := by
    revert w
    decide
  simp [wordBytes, decodeWordBytes, hjoin]

theorem extract_unused_bits (w : CommandWord) : (0#6 ++ w : BitVec 16).extractLsb' 10 6 = 0#6 := by
  revert w
  decide

theorem extract_word_bits (w : CommandWord) : (0#6 ++ w : BitVec 16).extractLsb' 0 10 = w := by
  revert w
  decide

theorem extract_payload_bits (w : CommandWord) : (0#6 ++ w : BitVec 16).extractLsb' 0 8 = w.extractLsb' 0 8 := by
  revert w
  decide

theorem decodeCmd_wordBytes (w : CommandWord) (rest : List Byte) :
    decodeCmd (wordBytes w ++ rest) = .ok (.ldCmd w) rest := by
  simp [decodeCmd, decodeWordBytes_wordBytes, extract_unused_bits, extract_word_bits]

theorem decodeStart_byte (source : ClockSource) (rest : List Byte) :
    decodeStart (source.byte :: rest) = .ok (.tcStart source) rest := by
  cases source <;> rfl

/-! #### Command words (rules R68, R69, R87) -/

/-- A word carries seven bits of an address (rule R77); every other field of a write command it carries whole. -/
def Command.addressFits : Command → Bool
  | .setDDRAMAddress a => decide (a < 128)
  | _ => true

theorem Command.addressFits_iff (c : Command) : c.addressFits = true ↔ ∀ a, c = .setDDRAMAddress a → a < 128 := by
  cases c <;> simp [addressFits]

theorem classify_data (lay : FsLayout) (b : Byte) :
    classify lay (0b0#1 ++ BitVec.ofBool true ++ b) = some (.writeData b) := by
  cases lay <;> revert b <;> decide

theorem classify_instruction (lay : FsLayout) (p : Byte) :
    classify lay (0b0#1 ++ BitVec.ofBool false ++ p) = (functionSetOf lay p).or (plainCommandOf p) := by
  cases lay <;> revert p <;> decide

theorem classify_read {lay : FsLayout} {w : CommandWord} (h : w.getLsbD 9 = true) : classify lay w = none := by
  simp only [classify, h, ↓reduceIte]

/-- The bits of a word that is no read, in the order of rule R68. -/
theorem word_eq_fields (w : CommandWord) (h : w.getLsbD 9 = false) :
    w = 0b0#1 ++ BitVec.ofBool (w.getLsbD 8) ++ w.extractLsb' 0 8 := by
  revert w
  decide

/-- What an instruction payload spells has that payload (rules R71 to R76): the FunctionSet of the layout. -/
theorem payload_of_functionSetOf (lay : FsLayout) (p : Byte) :
    ∀ c ∈ functionSetOf lay p, c.rs = false ∧ c.payload lay = p ∧ c.addressFits = true := by
  cases lay <;> revert p <;> decide

/-- What an instruction payload spells has that payload (rules R71 to R77): the commands beside FunctionSet. -/
theorem payload_of_plainCommandOf (lay : FsLayout) (p : Byte) :
    ∀ c ∈ plainCommandOf p, c.rs = false ∧ c.payload lay = p ∧ c.addressFits = true := by
  cases lay <;> revert p <;> decide

theorem payload_of_classify {lay : FsLayout} {p : Byte} {c : Command}
    (h : classify lay (0b0#1 ++ BitVec.ofBool false ++ p) = some c) :
    c.rs = false ∧ c.payload lay = p ∧ c.addressFits = true := by
  rw [classify_instruction, Option.or_eq_some_iff] at h
  obtain hf | ⟨-, hp⟩ := h
  · exact payload_of_functionSetOf lay p c hf
  · exact payload_of_plainCommandOf lay p c hp

/-- A word spells no command but its own (rule R87). -/
theorem word_of_classify {lay : FsLayout} {w : CommandWord} {c : Command} (h : classify lay w = some c) :
    c.word lay = w ∧ c.addressFits = true := by
  cases hread : w.getLsbD 9 with
  | true => simp [classify_read hread] at h
  | false =>
    have hw := word_eq_fields w hread
    cases hrs : w.getLsbD 8 with
    | true =>
      rw [hrs] at hw
      rw [hw, classify_data] at h
      cases h
      exact ⟨hw.symm, rfl⟩
    | false =>
      rw [hrs] at hw
      rw [hw] at h
      obtain ⟨hc, hp, hfits⟩ := payload_of_classify h
      exact ⟨by rw [Command.word, hc, hp, ← hw], hfits⟩

theorem classify_address (lay : FsLayout) (a : BitVec 7) :
    classify lay (0b0#1 ++ BitVec.ofBool false ++ (0b1#1 ++ a)) = some (.setDDRAMAddress a.toNat) := by
  cases lay <;> revert a <;> decide

/-- A command's own word spells it, under each layout of FunctionSet (rules R71 to R78). -/
theorem classify_word (lay : FsLayout) (c : Command) (h : c.addressFits = true) :
    classify lay (c.word lay) = some c := by
  cases c with
  | clearDisplay => cases lay <;> rfl
  | returnHome => cases lay <;> rfl
  | entryModeSet i s => cases lay <;> revert i s <;> decide
  | displayControls d c b => cases lay <;> revert d c b <;> decide
  | cursorDisplayShift sc rl => cases lay <;> revert sc rl <;> decide
  | functionSet dl n f => cases lay <;> revert dl n f <;> decide
  | setDDRAMAddress a =>
    have ha : (BitVec.ofNat 7 a).toNat = a := Nat.mod_eq_of_lt (of_decide_eq_true h)
    exact (classify_address lay (BitVec.ofNat 7 a)).trans (by rw [ha])
  | writeData b => exact classify_data lay b

/-- Settles O4: a word spells only the command it is the word of, and a command's own word spells it. -/
theorem classifyInvertsWord : Obligations.ClassifyInvertsWord := by
  intro lay w c
  rw [← c.addressFits_iff]
  constructor
  · exact word_of_classify
  · rintro ⟨rfl, hfits⟩
    exact classify_word lay c hfits

/-- Settles O5: the 256 payloads, each read by the default layout. -/
theorem neverEmittedPayloads : Obligations.NeverEmittedPayloads := by
  unfold Obligations.NeverEmittedPayloads
  decide

/-! #### Requests (rules R66, R67, R87) -/

/-- The word of a write command is no status read (rule R69). -/
theorem isStatusWord_word (lay : FsLayout) (c : Command) : isStatusWord (c.word lay) = false := by
  have hwrite : ∀ (rs : Bool) (p : Byte), isStatusWord (0b0#1 ++ BitVec.ofBool rs ++ p) = false := by decide
  exact hwrite c.rs (c.payload lay)

theorem decodeCw_word (lay : FsLayout) (c : Command) (rest : List Byte) (h : c.addressFits = true) :
    decodeCw lay (wordBytes (c.word lay) ++ rest) = .ok (Instr.ofCommand c) rest := by
  simp [decodeCw, decodeWordBytes_wordBytes, extract_unused_bits, extract_word_bits, isStatusWord_word,
    classify_word lay c h]

theorem decodeCw_status {lay : FsLayout} {w : CommandWord} (rest : List Byte) (h : isStatusWord w = true) :
    decodeCw lay (wordBytes w ++ rest) = .ok (.statusRead (w.extractLsb' 0 8)) rest := by
  simp [decodeCw, decodeWordBytes_wordBytes, extract_unused_bits, extract_word_bits, extract_payload_bits, h]

theorem decodeCw_statusWord (lay : FsLayout) (u : Byte) (rest : List Byte) :
    decodeCw lay (wordBytes (0b10#2 ++ u) ++ rest) = .ok (.statusRead u) rest := by
  have hstatus : isStatusWord (0b10#2 ++ u) = true := by revert u; decide
  have hpayload : (0b10#2 ++ u).extractLsb' 0 8 = u := by revert u; decide
  rw [decodeCw_status rest hstatus, hpayload]

/-- Settles O1: a selector is followed by operands that read back, and a command word spells its own row. -/
theorem decodeOfEncode : Obligations.DecodeOfEncode := by
  intro cfg i rest h
  cases i with
  | tcStart source => exact decodeStart_byte source rest
  | tcSample => rfl
  | tcTick => rfl
  | tcOvf => rfl
  | fmtFormat v n m => exact decodeFormat_encodeNat v n m rest
  | ldInit => rfl
  | ldClear => rfl
  | ldMove p => rfl
  | ldWrite text =>
    change decodeWrite (encodeText text ++ rest) = _
    rw [decodeWrite, decodeText_encodeText]
  | ldCmd w => exact decodeCmd_wordBytes w rest
  | ldStatus => rfl
  | clearDisplay => exact decodeCw_word _ .clearDisplay rest rfl
  | returnHome => exact decodeCw_word _ .returnHome rest rfl
  | entryModeSet i s => exact decodeCw_word _ (.entryModeSet i s) rest rfl
  | displayControls d c b => exact decodeCw_word _ (.displayControls d c b) rest rfl
  | cursorDisplayShift sc rl => exact decodeCw_word _ (.cursorDisplayShift sc rl) rest rfl
  | functionSet dl n f => exact decodeCw_word _ (.functionSet dl n f) rest rfl
  | setDDRAMAddress a => exact decodeCw_word _ (.setDDRAMAddress a) rest h
  | writeData b => exact decodeCw_word _ (.writeData b) rest rfl
  | statusRead u => exact decodeCw_statusWord _ u rest

/-- Settles O2: the decoder on each of the ten words. -/
theorem tableWordsDecode : Obligations.TableWordsDecode := by
  unfold Obligations.TableWordsDecode
  decide

theorem decodeOp_reserved {sel : Byte} (bytes : List Byte)
    (h : sel.toNat ∉ [0x10, 0x11, 0x1E, 0x1F, 0x20, 0x30, 0x31, 0x32, 0x33, 0x38, 0x39]) :
    decodeOp (sel :: bytes) = .bad (.reservedSelector sel) := by
  unfold decodeOp
  -- each arm but the last is for a selector of the list
  split <;> simp_all

end Sys2Proof

namespace Sys2Proof.Machine

/-! #### Asking for an instruction (rules R66, R67, R88) -/

theorem step_request {s : State} {who : Agent} {fmt : Format} {bytes tail : List Byte} {rest : List Slot} {i : Instr}
    (hs : s.schedule = .request who fmt bytes :: rest) (hd : fetch s fmt bytes = .ok i tail) :
    step s = closeStep (exec i (openStep who rest s)) := by
  simp [step, hs, hd]

theorem step_undecodable {s : State} {who : Agent} {fmt : Format} {bytes : List Byte} {rest : List Slot}
    {e : DecodeError} (hs : s.schedule = .request who fmt bytes :: rest) (hd : fetch s fmt bytes = .bad e) :
    step s = .refused (.undecodable e) := by
  simp [step, hs, hd]

/-- Settles O3: a reserved selector does not decode. -/
theorem reservedSelectorsAreRefused : Obligations.ReservedSelectorsAreRefused :=
  fun _ _ _ bytes _ hsel hs => step_undecodable hs (decodeOp_reserved bytes hsel)

/-- Settles O52: the instruction is executed with its entry taken off, and its outcome is the step's. -/
theorem stepRunsDecoded : Obligations.StepRunsDecoded := by
  intro s who fmt bytes tail rest i hs hd
  have hstep : step s = closeStep (exec i { s with schedule := rest, agent := who }) := step_request hs hd
  rw [hstep]
  exact ⟨fun t h => by rw [h]; rfl, fun r h => by rw [h]; rfl, fun r h => by rw [h]; rfl⟩

theorem eventOf_wrongContext {s : State} {who : Agent} (go : Outcome) (h : s.agent ≠ who) :
    eventOf who s go = .refused .wrongContext := by
  simp [eventOf, h]

theorem hostOperation_wrongContext {s : State} (go : Outcome) (h : s.agent ≠ .host) :
    hostOperation s go = .refused .wrongContext := by
  simp [hostOperation, h]

/-- Settles O44: the two events belong to the tick source and the handler, and what is no event is a host operation. -/
theorem requestsBelongToOneAgent : Obligations.RequestsBelongToOneAgent := by
  intro s i
  refine ⟨?_, ?_, ?_⟩
  · rintro rfl h
    exact eventOf_wrongContext _ h
  · rintro rfl h
    exact eventOf_wrongContext _ h
  · intro htick hovf h
    obtain ⟨go, hgo⟩ := exec_eq_hostOperation i s htick hovf
    rw [hgo]
    exact hostOperation_wrongContext go h

/-- Settles O35: a word that spells a command is that command's word. -/
theorem unknownWordsAreRefused : Obligations.UnknownWordsAreRefused := by
  intro s w hfree hw
  have hnone : classify s.cfg.fsLayout w = none :=
    Option.eq_none_iff_forall_ne_some.2 fun c hc => hw c (word_of_classify hc).1
  have hgo := hostOperation_free (.refused (.notACommand w)) hfree
  simpa [exec, execLdCmd, hnone] using hgo

end Sys2Proof.Machine

/-! ### Encoding (spec 30_encoding.md): the bytes of a command on the bus (rules R81, R82, R90, R91) -/

namespace Sys2Proof.Machine

/-! #### A packed byte (rule R81) -/

/-- A nibble in the upper half of a byte, every control line low. -/
def carrying (nib : Nibble) : Byte := nib ++ 0#4

theorem pack_eq (cfg : Config) (nib : Nibble) (rs rw e : Bool) :
    pack cfg nib rs rw e = carrying nib ||| levelAt cfg.auxLevel cfg.posAux ||| levelAt e cfg.posE |||
      levelAt (rwLevel cfg rw) cfg.posRw ||| levelAt (rsLevel cfg rs) cfg.posRs := rfl

theorem carrying_getLsbD (nib : Nibble) (pos : Fin 4) : (carrying nib).getLsbD pos.val = false := by
  revert nib pos
  decide

/-- A control line's level stands at its position and nowhere else. -/
theorem levelAt_getLsbD (level : Bool) (line pos : Fin 4) :
    (levelAt level line).getLsbD pos.val = (level && decide (pos = line)) := by
  revert level line pos
  decide

/-- The level of a packed byte at any of the four positions. -/
theorem pack_getLsbD (cfg : Config) (nib : Nibble) (rs rw e : Bool) (pos : Fin 4) :
    (pack cfg nib rs rw e).getLsbD pos.val =
      (cfg.auxLevel && decide (pos = cfg.posAux) || e && decide (pos = cfg.posE) ||
        rwLevel cfg rw && decide (pos = cfg.posRw) || rsLevel cfg rs && decide (pos = cfg.posRs)) := by
  simp only [pack_eq, BitVec.getLsbD_or, carrying_getLsbD, levelAt_getLsbD, Bool.false_or]

theorem nibbleOf_or (a b : Byte) : nibbleOf (a ||| b) = nibbleOf a ||| nibbleOf b := by
  simp [nibbleOf, BitVec.extractLsb'_or]

theorem nibbleOf_carrying (nib : Nibble) : nibbleOf (carrying nib) = nib := by
  revert nib
  decide

theorem nibbleOf_levelAt (level : Bool) (line : Fin 4) : nibbleOf (levelAt level line) = 0#4 := by
  revert level line
  decide

theorem nibbleOf_pack (cfg : Config) (nib : Nibble) (rs rw e : Bool) : nibbleOf (pack cfg nib rs rw e) = nib := by
  simp only [pack_eq, nibbleOf_or, nibbleOf_carrying, nibbleOf_levelAt, BitVec.or_zero]

theorem pack_enable_high (cfg : Config) (nib : Nibble) (rs rw : Bool) :
    pack cfg nib rs rw true = pack cfg nib rs rw false ||| levelAt true cfg.posE := by
  have hlow : levelAt false cfg.posE = 0#8 := rfl
  simp only [pack_eq, hlow, BitVec.or_zero]
  ac_rfl

theorem rsLevel_eq_rsData (cfg : Config) (rs : Bool) : (rsLevel cfg rs == cfg.rsData) = rs := by
  cases rs <;> simp [rsLevel]

theorem rwLevel_eq_rwRead (cfg : Config) (rw : Bool) : (rwLevel cfg rw == cfg.rwRead) = rw := by
  cases rw <;> simp [rwLevel]

theorem DistinctLines.ne {cfg : Config} (h : DistinctLines cfg) :
    cfg.posRs ≠ cfg.posRw ∧ cfg.posRs ≠ cfg.posE ∧ cfg.posRs ≠ cfg.posAux ∧ cfg.posRw ≠ cfg.posE ∧
      cfg.posRw ≠ cfg.posAux ∧ cfg.posE ≠ cfg.posAux := by
  simpa [DistinctLines, and_assoc] using h

section
variable {cfg : Config} (h : DistinctLines cfg) (nib : Nibble) (rs rw e : Bool)
include h

theorem pack_posRs : (pack cfg nib rs rw e).getLsbD cfg.posRs.val = rsLevel cfg rs := by
  obtain ⟨hrw, he, haux, -⟩ := h.ne
  simp [pack_getLsbD, hrw, he, haux]

theorem pack_posRw : (pack cfg nib rs rw e).getLsbD cfg.posRw.val = rwLevel cfg rw := by
  obtain ⟨hrs, -, -, he, haux, -⟩ := h.ne
  simp [pack_getLsbD, hrs.symm, he, haux]

theorem enableOf_pack : enableOf cfg (pack cfg nib rs rw e) = e := by
  obtain ⟨-, hrs, -, hrw, -, haux⟩ := h.ne
  simp [enableOf, pack_getLsbD, hrs.symm, hrw.symm, haux]

theorem pack_posAux : (pack cfg nib rs rw e).getLsbD cfg.posAux.val = cfg.auxLevel := by
  obtain ⟨-, -, hrs, -, hrw, he⟩ := h.ne
  simp [pack_getLsbD, hrs.symm, hrw.symm, he.symm]

theorem rsOf_pack : rsOf cfg (pack cfg nib rs rw e) = rs := by
  rw [rsOf, pack_posRs h, rsLevel_eq_rsData]

theorem rwOf_pack : rwOf cfg (pack cfg nib rs rw e) = rw := by
  rw [rwOf, pack_posRw h, rwLevel_eq_rwRead]

/-- The three bytes of a nibble group decode to its nibble and the levels of RS and R/W (rule R91). -/
theorem decodeTriple_pack :
    decodeTriple cfg (pack cfg nib rs rw false) (pack cfg nib rs rw true) (pack cfg nib rs rw false) =
      some (nib, rsLevel cfg rs, rwLevel cfg rw) := by
  simp [decodeTriple, enableOf_pack h, ← pack_enable_high, nibbleOf_pack, pack_posRs h, pack_posRw h]

end

/-- Settles O8: a packed byte read at the four positions, and the Enable line alone raised. -/
theorem nibbleGroupShape : Obligations.NibbleGroupShape := by
  intro cfg nib rs rw h
  exact ⟨fun e => ⟨nibbleOf_pack cfg nib rs rw e, enableOf_pack h nib rs rw e, rsOf_pack h nib rs rw e,
    rwOf_pack h nib rs rw e, pack_posAux h nib rs rw e⟩, pack_enable_high cfg nib rs rw, rfl⟩

/-! #### The bytes of a command (rules R90, R91, R142, R143) -/

theorem joinTriples_levels (cfg : Config) (upper lower : Nibble) (rs rw : Bool) :
    joinTriples cfg (upper, rsLevel cfg rs, rwLevel cfg rw) (lower, rsLevel cfg rs, rwLevel cfg rw) =
      some (rs, rw, upper ++ lower) := by
  simp [joinTriples, rsLevel_eq_rsData, rwLevel_eq_rwRead]

theorem upperNibble_append_lowerNibble (p : Byte) : upperNibble p ++ lowerNibble p = p := by
  revert p
  decide

theorem decodeBus_twoGroups {cfg : Config} (h : DistinctLines cfg) (p : Byte) (rs rw : Bool) :
    decodeBus cfg (nibbleGroup cfg (upperNibble p) rs rw ++ nibbleGroup cfg (lowerNibble p) rs rw) =
      some (rs, rw, p) := by
  simp [nibbleGroup, decodeBus, decodeTriple_pack h, joinTriples_levels, upperNibble_append_lowerNibble]

/-- The repeated upper nibble is not part of the payload (rule R143). -/
theorem decodeBus_threeGroups {cfg : Config} (h : DistinctLines cfg) (p : Byte) (rs rw : Bool) :
    decodeBus cfg (nibbleGroup cfg (upperNibble p) rs rw ++ (nibbleGroup cfg (upperNibble p) rs rw ++
      nibbleGroup cfg (lowerNibble p) rs rw)) = some (rs, rw, p) := by
  simp [nibbleGroup, decodeBus, decodeTriple_pack h, joinTriples_levels, upperNibble_append_lowerNibble]

/-- Settles O6: the groups of a command decode, with the upper one repeated or not. -/
theorem busRoundTrip : Obligations.BusRoundTrip := by
  intro cfg c h
  cases hrep : repeatUpper c with
  | true => simpa [busSequence, sentNibbles, hrep] using decodeBus_threeGroups h (c.payload cfg.fsLayout) c.rs false
  | false => simpa [busSequence, sentNibbles, hrep] using decodeBus_twoGroups h (c.payload cfg.fsLayout) c.rs false

/-- Three bytes for each nibble sent (rule R82). -/
theorem busSequence_length (cfg : Config) (c : Command) :
    (busSequence cfg c).length = 3 * (sentNibbles cfg c).length := by
  simp [busSequence, nibbleGroup, List.length_flatMap, mul_comm]

/-- Settles O7: a FunctionSet sends three nibbles, every other command two. -/
theorem commandLengths : Obligations.CommandLengths := by
  intro cfg c
  rw [busSequence_length]
  cases c <;> rfl

end Sys2Proof.Machine

/-! ### Encoding (spec 30_encoding.md): the string of the formatter (rules R84, R125 to R129) -/

namespace Sys2Proof.Machine

/-- The last `k` decimal digits of `x` as characters, the most significant first. -/
def decimalDigits : Nat → Nat → List Byte
  | 0, _ => []
  | k + 1, x => decimalDigits k (x / 10) ++ [digitChar (x % 10)]

theorem decimalDigits_length (k x : Nat) : (decimalDigits k x).length = k := by
  induction k generalizing x with
  | zero => rfl
  | succ k ih => simp [decimalDigits, ih]

/-- Digit `i` of `k` from the left has weight `10 ^ (k - 1 - i)`. -/
theorem decimalDigits_eq_map (k x : Nat) :
    decimalDigits k x = (List.range k).map (fun i => digitChar (x / 10 ^ (k - 1 - i) % 10)) := by
  induction k generalizing x with
  | zero => rfl
  | succ k ih =>
    have hshift : ∀ i < k, x / 10 / 10 ^ (k - 1 - i) = x / 10 ^ (k + 1 - 1 - i) := by
      intro i hi
      have hexp : k + 1 - 1 - i = (k - 1 - i) + 1 := by omega
      rw [hexp, Nat.div_div_eq_div_mul, ← Nat.pow_succ']
    rw [decimalDigits, ih, List.range_succ, List.map_append]
    congr 1
    · exact List.map_congr_left fun i hi => by rw [hshift i (List.mem_range.1 hi)]
    · simp

/-! #### Reading a string of digits back -/

theorem digitChar_toNat {d : Nat} (h : d < 10) : (digitChar d).toNat = 0x30 + d := Nat.mod_eq_of_lt (by omega)

theorem isDigitChar_digitChar {d : Nat} (h : d < 10) : IsDigitChar (digitChar d) := by
  have := digitChar_toNat h
  constructor <;> omega

theorem digitValue_digitChar {d : Nat} (h : d < 10) : digitValue (digitChar d) = d := by
  rw [digitValue, digitChar_toNat h]
  omega

theorem isDigitChar_of_mem_decimalDigits {k x : Nat} {b : Byte} (h : b ∈ decimalDigits k x) : IsDigitChar b := by
  rw [decimalDigits_eq_map] at h
  obtain ⟨i, -, rfl⟩ := List.mem_map.1 h
  exact isDigitChar_digitChar (Nat.mod_lt _ (by decide))

/-- Digits behind a value `acc` move it up by their number of places. -/
theorem foldl_decimalDigits (k x acc : Nat) :
    (decimalDigits k x).foldl (fun acc b => acc * 10 + digitValue b) acc = acc * 10 ^ k + x % 10 ^ k := by
  induction k generalizing x with
  | zero => simp [decimalDigits, Nat.mod_one]
  | succ k ih =>
    rw [decimalDigits, List.foldl_append, ih, List.foldl_cons, List.foldl_nil,
      digitValue_digitChar (Nat.mod_lt _ (by decide)), Nat.pow_succ', Nat.mod_mul]
    ring

/-- `s` digits of `v` above the lowest `m`, then those `m`, read as `v` where `s` is enough. -/
theorem decimalValue_digits (v m s : Nat) (h : v / 10 ^ m < 10 ^ s) :
    decimalValue (decimalDigits s (v / 10 ^ m) ++ decimalDigits m v) = v := by
  rw [decimalValue, List.foldl_append, foldl_decimalDigits, foldl_decimalDigits, Nat.zero_mul, Nat.zero_add,
    Nat.mod_eq_of_lt h, Nat.div_add_mod']

/-! #### The scan for the highest non-zero digit (rules R125, R127) -/

theorem significantFrom_pos (d : Nat → Nat) (k : Nat) : 1 ≤ significantFrom d k := by
  induction k with
  | zero => exact le_rfl
  | succ k ih =>
    rw [significantFrom]
    split
    · omega
    · exact ih

theorem significantFrom_le (d : Nat → Nat) (k : Nat) : significantFrom d k ≤ k + 1 := by
  induction k with
  | zero => exact le_rfl
  | succ k ih =>
    rw [significantFrom]
    split
    · exact le_rfl
    · omega

/-- The scan stops at a digit that is not 0, if it stops above the ones. -/
theorem significantFrom_leading (d : Nat → Nat) (k : Nat) (h : 1 < significantFrom d k) :
    d (significantFrom d k - 1) ≠ 0 := by
  induction k with
  | zero => exact absurd h (lt_irrefl 1)
  | succ k ih =>
    rw [significantFrom] at h ⊢
    split at h
    next hd => rwa [if_pos hd]
    next hd =>
      rw [if_neg hd]
      exact ih h

/-- A number of at most `k + 1` digits has no more than the scan keeps. -/
theorem lt_pow_significantFrom {x k : Nat} {d : Nat → Nat} (hd : ∀ j, d j = x / 10 ^ j % 10)
    (h : x < 10 ^ (k + 1)) : x < 10 ^ significantFrom d k := by
  induction k with
  | zero => exact h
  | succ k ih =>
    rw [significantFrom]
    split
    next => exact h
    next htop =>
      have hq : x / 10 ^ (k + 1) < 10 := Nat.div_lt_of_lt_mul (by rwa [← Nat.pow_succ])
      have hzero : x / 10 ^ (k + 1) = 0 := by
        rw [hd, Nat.mod_eq_of_lt hq] at htop
        exact not_not.1 htop
      exact ih ((Nat.div_eq_zero_iff_lt (by positivity)).1 hzero)

/-! #### The string (rules R125 to R129) -/

theorem integerDigit_eq (v m k : Nat) : integerDigit v m k = v / 10 ^ m / 10 ^ k % 10 := by
  rw [integerDigit, Nat.div_div_eq_div_mul, ← Nat.pow_add, Nat.add_comm m k]

/-- Where `N = 0` the one integer digit is the 0 a value below `10 ^ M` has there. -/
theorem integerDigit_ones_of_no_places {v n m : Nat} (h : v < 10 ^ (n + m)) (hn : ¬ 1 ≤ n) :
    integerDigit v m 0 = 0 := by
  obtain rfl : n = 0 := by omega
  rw [integerDigit, Nat.div_eq_of_lt (by simpa using h)]

theorem significantDigits_of_le_one {n : Nat} (v m : Nat) (h : n ≤ 1) : significantDigits v n m = 1 := by
  rw [significantDigits, Nat.sub_eq_zero_of_le h]
  rfl

/-- The integer part fits the places the scan keeps. -/
theorem integerPart_lt {v n m : Nat} (h : v < 10 ^ (n + m)) : v / 10 ^ m < 10 ^ significantDigits v n m := by
  apply lt_pow_significantFrom (integerDigit_eq v m)
  calc
    v / 10 ^ m < 10 ^ n := Nat.div_lt_of_lt_mul (by rwa [← Nat.pow_add, Nat.add_comm])
    _ ≤ 10 ^ (n - 1 + 1) := Nat.pow_le_pow_right (by decide) (by omega)

theorem formattedString_integerPart {v n m : Nat} (h : v < 10 ^ (n + m)) :
    (List.range (significantDigits v n m)).map
        (fun i => digitChar (if 1 ≤ n then integerDigit v m (significantDigits v n m - 1 - i) else 0)) =
      decimalDigits (significantDigits v n m) (v / 10 ^ m) := by
  rw [decimalDigits_eq_map]
  refine List.map_congr_left fun i hi => ?_
  rw [← integerDigit_eq]
  split
  next => rfl
  next hn =>
    have hi0 : significantDigits v n m - 1 - i = 0 := by rw [significantDigits_of_le_one v m (by omega)]; omega
    rw [hi0, integerDigit_ones_of_no_places h hn]

theorem formattedString_fraction (v m : Nat) :
    (List.range m).map (fun j => digitChar (fractionalDigit v m (j + 1))) = decimalDigits m v := by
  rw [decimalDigits_eq_map]
  refine List.map_congr_left fun j _ => ?_
  rw [fractionalDigit, Nat.sub_sub, Nat.add_comm 1 j]

/-- The digits of the integer part the scan keeps, the point, and `M` digits of the fraction. -/
theorem formattedString_eq {v n m : Nat} (h : v < 10 ^ (n + m)) :
    formattedString v n m =
      decimalDigits (significantDigits v n m) (v / 10 ^ m) ++ 0x2E#8 :: decimalDigits m v := by
  rw [formattedString, formattedString_integerPart h, formattedString_fraction]
  rfl

theorem digitChar_ne_zero {d : Nat} (h : d < 10) (hd : d ≠ 0) : digitChar d ≠ 0x30#8 := by
  intro heq
  have hval := digitChar_toNat h
  rw [heq] at hval
  exact hd (by simpa using hval)

/-- No leading zero: the first of several integer digits is the one the scan stopped at. -/
theorem integerPart_head_ne_zero {v n m : Nat} (h : 1 < significantDigits v n m) :
    (decimalDigits (significantDigits v n m) (v / 10 ^ m)).head? ≠ some 0x30#8 := by
  have hlead : integerDigit v m (significantDigits v n m - 1) ≠ 0 := significantFrom_leading _ _ h
  rw [integerDigit_eq] at hlead
  have hfirst := digitChar_ne_zero (Nat.mod_lt _ (by decide)) hlead
  obtain ⟨s, hs⟩ := Nat.exists_eq_add_of_lt h
  rw [decimalDigits_eq_map]
  simpa [List.head?_range, hs] using hfirst

/-- Settles O24: the string is the digits of the integer part, the point and the digits of the fraction. -/
theorem formattedStringIsTheValue : Obligations.FormattedStringIsTheValue := by
  intro v n m h
  have hlen := decimalDigits_length (significantDigits v n m) (v / 10 ^ m)
  refine ⟨_, _, formattedString_eq h, decimalDigits_length m v, ?_, ?_, ?_, ?_, ?_, ?_, ?_⟩
  · rw [hlen]
    exact significantFrom_pos _ _
  · rw [hlen, formattedLength]
  · exact fun b hb => (List.mem_append.1 hb).elim isDigitChar_of_mem_decimalDigits isDigitChar_of_mem_decimalDigits
  · exact decimalValue_digits v m _ (integerPart_lt h)
  · rw [hlen]
    exact integerPart_head_ne_zero
  · rw [hlen]
    exact significantDigits_of_le_one v m
  · intro hn
    have hle : significantDigits v n m ≤ n - 1 + 1 := significantFrom_le _ _
    omega

end Sys2Proof.Machine

/-! ### The tick counter (spec 40_tick_counter.md) -/

namespace Sys2Proof.Machine

/-! #### The operations and events of one step (rules R20, R100 to R104) -/

/-- Settles O9: the free host is admitted, and the critical section is left again within the step. -/
theorem startResetsTheTimer : Obligations.StartResetsTheTimer :=
  fun _ _ hfree => hostOperation_free _ hfree

theorem exec_tcTick {s : State} (ha : s.agent = .tickSource) :
    exec .tcTick s = .next (if s.run then countTick s else s) :=
  eventOf_agent _ ha

theorem countTick_cnt_eq (s : State) : (countTick s).cnt = BitVec.ofNat 16 ((s.cnt.toNat + 1) % 65536) := by
  rw [countTick_cnt]
  bv_omega

theorem cnt_eq_last_iff (cnt : BitVec 16) : cnt = 0xFFFF#16 ↔ cnt.toNat = 65535 := BitVec.toNat_inj.symm

/-- Settles O10: a running timer counts once, a stopped one not at all. -/
theorem tickCounts : Obligations.TickCounts := by
  intro s ha
  rw [exec_tcTick ha]
  constructor
  · intro hr
    rw [if_pos hr, ← countTick_cnt_eq]
    simp only [← cnt_eq_last_iff]
    rfl
  · intro hr
    simp [hr]

theorem handlerEnabled_iff (s : State) :
    handlerEnabled s = true ↔ s.ovf = true ∧ s.ovie = true ∧ s.mask = false := by
  simp [handlerEnabled, and_assoc]

/-- The handler leaves `MASK` as it found it, 0, so it writes the tally and `OVF` alone. -/
theorem takeOverflow_eq {s : State} (h : s.mask = false) :
    takeOverflow s = { s with tally := (s.tally + 1) % 2 ^ s.cfg.tallyWidth, ovf := false } := by
  simp [takeOverflow, leaveCritical, countOverflow, enterCritical, h]

theorem exec_tcOvf {s : State} (ha : s.agent = .handler) :
    exec .tcOvf s = .next (if handlerEnabled s then takeOverflow s else s) :=
  eventOf_agent _ ha

/-- Settles O12: the two clauses are the two sides of the handler's enable condition. -/
theorem handlerStep : Obligations.HandlerStep := by
  intro s ha
  rw [exec_tcOvf ha, ← handlerEnabled_iff]
  constructor
  · intro he
    obtain ⟨-, -, hmask⟩ := (handlerEnabled_iff s).1 he
    rw [if_pos he, takeOverflow_eq hmask]
  · intro he
    rw [if_neg he]

/-- Settles O13: the step is the handler's own, and the host resumes after it. -/
theorem interruptIsTransparent : Obligations.InterruptIsTransparent := by
  intro s bytes rest hs hovf hovie hmask
  have hd : fetch s .op (0x1F#8 :: bytes) = .ok .tcOvf bytes := rfl
  have hexec := (handlerStep (openStep .handler rest s) rfl).1 ⟨hovf, hovie, hmask⟩
  rw [step_request hs hd, hexec]
  rfl

theorem exec_tcSample {s : State} (hfree : HostFree s) :
    exec .tcSample s = if s.run then .next { s with seqTc := .s1, result := none } else .refused .notStarted :=
  hostOperation_free _ hfree

/-- Settles O14: a stopped timer, another agent and an operation in flight each refuse the sample. -/
theorem sampleAdmission : Obligations.SampleAdmission := by
  intro s
  refine ⟨fun hfree hr => ?_, hostOperation_wrongContext _, hostOperation_inFlight _⟩
  rw [exec_tcSample hfree]
  simp [hr]

/-! #### The micro-steps of a sample (rules R15, R103) -/

theorem sampleStep_s1 {s : State} (h : s.seqTc = .s1) : sampleStep s = { s with mask := true, seqTc := .s2 } := by
  simp [sampleStep, h, enterCritical]

theorem sampleStep_s2 {s : State} (h : s.seqTc = .s2) :
    sampleStep s = { s with tL := s.tally, seqTc := captureStep s.cfg } := by
  simp [sampleStep, h]

theorem sampleStep_s3 {s : State} (h : s.seqTc = .s3) : sampleStep s = { s with rL := s.cnt, seqTc := .s4 } := by
  simp [sampleStep, h]

theorem sampleStep_s4 {s : State} (h : s.seqTc = .s4) : sampleStep s = { s with pL := s.ovf, seqTc := .s5 } := by
  simp [sampleStep, h]

theorem sampleStep_s34 {s : State} (h : s.seqTc = .s34) :
    sampleStep s = { s with rL := s.cnt, pL := s.ovf, seqTc := .s5 } := by
  simp [sampleStep, h]

theorem sampleStep_s5 {s : State} (h : s.seqTc = .s5) : sampleStep s = { s with mask := false, seqTc := .s6 } := by
  simp [sampleStep, h, leaveCritical]

theorem sampleStep_s6 {s : State} (h : s.seqTc = .s6) :
    sampleStep s = { s with
      seqTc := .idle, result := some (.tickCount (latchedCount s % 2 ^ s.cfg.tickWidth)) } := by
  simp [sampleStep, h, sampleCount, latchedCount]

theorem hostStep_sample {s : State} (ans : Answer) (h : s.seqTc ≠ .idle) : hostStep ans s = .next (sampleStep s) := by
  unfold hostStep
  split
  next hidle => exact absurd hidle h
  next => rfl

/-- Settles O17: a host step during a sample is the sample's micro-step. -/
theorem sampleMicroSteps : Obligations.SampleMicroSteps := by
  intro s ans
  have micro : ∀ {q : SeqTc}, q ≠ .idle → s.seqTc = q → hostStep ans s = .next (sampleStep s) :=
    fun hq h => hostStep_sample ans (h ▸ hq)
  refine ⟨fun h => ?_, fun h => ?_, fun h => ?_, fun h => ?_, fun h => ?_, fun h => ?_, fun h => ?_⟩
  · rw [micro (by decide) h, sampleStep_s1 h]
  · rw [micro (by decide) h, sampleStep_s2 h]
    rfl
  · rw [micro (by decide) h, sampleStep_s3 h]
  · rw [micro (by decide) h, sampleStep_s4 h]
  · rw [micro (by decide) h, sampleStep_s34 h]
  · rw [micro (by decide) h, sampleStep_s5 h]
  · rw [micro (by decide) h, sampleStep_s6 h]
    rfl

/-! #### A sample with nothing else stepping (rules R103, R109) -/

/-- A micro-step neither reads nor writes the schedule and the agent. -/
theorem sampleStep_openStep (s : State) (who : Agent) (rest : List Slot) :
    sampleStep (openStep who rest s) = openStep who rest (sampleStep s) := by
  unfold sampleStep
  simp only [openStep_seqTc]
  split <;> rfl

theorem step_sample {s : State} {ans : Answer} {rest : List Slot} (hs : s.schedule = .proceed ans :: rest)
    (h : s.seqTc ≠ .idle) : step s = .next (resumeHost (openStep .host rest (sampleStep s))) := by
  rw [← sampleStep_openStep]
  simp only [step, hs]
  rw [hostStep_sample ans (s := openStep .host rest s) h]
  rfl

theorem steps_sample {s : State} (k : Nat) (ans : Answer) (rest : List Slot) (h : s.seqTc ≠ .idle) :
    steps (k + 1) (s.scheduled (k + 1) ans rest) = steps k ((resumeHost (sampleStep s)).scheduled k ans rest) := by
  have hs : (s.scheduled (k + 1) ans rest).schedule = .proceed ans :: (List.replicate k (.proceed ans) ++ rest) := rfl
  have hcomm : sampleStep (s.scheduled (k + 1) ans rest) = openStep s.agent _ (sampleStep s) :=
    sampleStep_openStep s s.agent (List.replicate (k + 1) (Slot.proceed ans) ++ rest)
  rw [steps_succ_of_step (step_sample hs h), hcomm]
  rfl

/-- S1 and S2: the critical section is entered and the tally latched. -/
theorem steps_sample_opening {s : State} (k : Nat) (ans : Answer) (rest : List Slot) (h : s.seqTc = .s1) :
    steps (k + 2) (s.scheduled (k + 2) ans rest) =
      steps k ({ s with
        mask := true, tL := s.tally, seqTc := captureStep s.cfg, agent := .host }.scheduled k ans rest) := by
  rw [steps_sample (k + 1) ans rest (by simp [h]), sampleStep_s1 h, steps_sample k ans rest (by simp),
    sampleStep_s2 rfl]
  rfl

/-- S5 and S6: the critical section is left and the latched count returned. -/
theorem steps_sample_closing {s : State} (ans : Answer) (rest : List Slot) (h : s.seqTc = .s5) :
    steps 2 (s.scheduled 2 ans rest) = .next { s with
      mask := false, seqTc := .idle, agent := .host, schedule := rest
      result := some (.tickCount (latchedCount s % 2 ^ s.cfg.tickWidth)) } := by
  rw [steps_sample 1 ans rest (by simp [h]), sampleStep_s5 h, steps_sample 0 ans rest (by simp), sampleStep_s6 rfl]
  rfl

theorem exec_tcSample_running {s : State} (hfree : HostFree s) (hr : s.run = true) :
    exec .tcSample s = .next { s with seqTc := .s1, result := none } :=
  (exec_tcSample hfree).trans (if_pos hr)

/-- Settles O15: between the opening and the closing, S3 latches the counter and S4 the flag. -/
theorem sampleReturnsTheCount : Obligations.SampleReturnsTheCount := by
  intro s ans rest hfree hr hcap
  have hplace : captureStep s.cfg = .s3 := by simp [captureStep, hcap]
  refine ⟨_, exec_tcSample_running hfree hr, rfl, ?_⟩
  obtain ⟨ha, htc, -⟩ := hfree
  rw [steps_sample_opening 4 ans rest rfl, steps_sample 3 ans rest (by simp [hplace]), sampleStep_s3 hplace,
    steps_sample 2 ans rest (by simp), sampleStep_s4 rfl, steps_sample_closing ans rest rfl, ← ha, ← htc]
  rfl

/-- Settles O16: between the opening and the closing, S34 latches the counter and the flag. -/
theorem atomicSampleReturnsTheCount : Obligations.AtomicSampleReturnsTheCount := by
  intro s ans rest hfree hr hcap
  have hplace : captureStep s.cfg = .s34 := by simp [captureStep, hcap]
  refine ⟨_, exec_tcSample_running hfree hr, rfl, ?_⟩
  obtain ⟨ha, htc, -⟩ := hfree
  rw [steps_sample_opening 3 ans rest rfl, steps_sample 2 ans rest (by simp [hplace]), sampleStep_s34 hplace,
    steps_sample_closing ans rest rfl, ← ha, ← htc]
  rfl

/-! #### What a step does to unit TC, and to the ideal count (rule R105) -/

theorem idealAfter_of_not_requested {s : State} (h : requested s = none) (n : Nat) : idealAfter s n = n := by
  simp [idealAfter, h]

theorem idealAfter_of_requested {s : State} {who : Agent} {i : Instr} (h : requested s = some (who, i))
    (htick : i = .tcTick → s.run = false) (hstart : ∀ src, i ≠ .tcStart src) (n : Nat) : idealAfter s n = n := by
  cases i with
  | tcTick => simp [idealAfter, h, htick rfl]
  | tcStart src => exact absurd rfl (hstart src)
  | _ => simp [idealAfter, h]

theorem idealAfter_tick {s : State} {who : Agent} (h : requested s = some (who, .tcTick)) (hr : s.run = true)
    (n : Nat) : idealAfter s n = n + 1 := by
  simp [idealAfter, h, hr]

theorem idealAfter_start {s : State} {who : Agent} {src : ClockSource} (h : requested s = some (who, .tcStart src))
    (n : Nat) : idealAfter s n = 0 := by
  simp [idealAfter, h]

/-- The place and the latches of a sample (rules R13, R15). -/
def SameSample (s t : State) : Prop := t.seqTc = s.seqTc ∧ t.tL = s.tL ∧ t.rL = s.rL ∧ t.pL = s.pL

theorem SameSample.refl (s : State) : SameSample s s := ⟨rfl, rfl, rfl, rfl⟩

theorem SameOutsideLd.sameSample {s t : State} (h : SameOutsideLd s t) : SameSample s t := by
  rw [h]
  exact SameSample.refl s

theorem formatStep_sameSample (v n m : Nat) (s : State) : SameSample s (formatStep v n m s) := by
  obtain ⟨o, l, k, r, h⟩ := formatStep_frame v n m s
  rw [h]
  exact SameSample.refl s

/-- What a step can do to unit TC: nothing, an event, `TC.START`, or to begin a sample or carry it on. Each case says
whether the ideal count moves. -/
inductive TickCounterStep (s : State) : State → Prop
  | kept {t : State} : (∀ n, idealAfter s n = n) → SameTimer s t → SameSample s t → TickCounterStep s t
  | tick {t : State} : requested s = some (.tickSource, .tcTick) → s.run = true → SameTimer (countTick s) t →
      SameSample s t → TickCounterStep s t
  | overflow {t : State} : (∀ n, idealAfter s n = n) → handlerEnabled s = true → SameTimer (takeOverflow s) t →
      SameSample s t → TickCounterStep s t
  | start {t : State} (src : ClockSource) : requested s = some (.host, .tcStart src) → SameTimer (startTimer src s) t →
      TickCounterStep s t
  | issued {t : State} : (∀ n, idealAfter s n = n) → SameTimer s t → s.seqTc = .idle → t.seqTc = .s1 →
      TickCounterStep s t
  | sampled (rest : List Slot) : (∀ n, idealAfter s n = n) → s.seqTc ≠ .idle →
      TickCounterStep s (resumeHost (openStep .host rest (sampleStep s)))

theorem exec_tickCounterStep {s u : State} {who : Agent} {rest : List Slot} {i : Instr}
    (hreq : requested s = some (who, i)) (h : exec i (openStep who rest s) = .next u) :
    TickCounterStep s (resumeHost u) := by
  cases exec_next h with
  | start src hfree =>
    obtain ⟨rfl, -, -⟩ := hfree
    exact .start src hreq (SameTimer.refl _)
  | sample hfree =>
    obtain ⟨-, htc, -⟩ := hfree
    exact .issued (idealAfter_of_requested hreq (by simp) (by simp)) (SameTimer.refl s) htc rfl
  | tick ha =>
    obtain rfl : who = .tickSource := ha
    split
    next hr => exact .tick hreq hr (SameTimer.refl _) (SameSample.refl s)
    next hr =>
      have hstopped : s.run = false := by simpa using hr
      exact .kept (idealAfter_of_requested hreq (fun _ => hstopped) (by simp)) (SameTimer.refl s) (SameSample.refl s)
  | overflow ha =>
    have hideal := idealAfter_of_requested hreq (by simp) (by simp)
    split
    next he => exact .overflow hideal he (SameTimer.refl _) (SameSample.refl s)
    next => exact .kept hideal (SameTimer.refl s) (SameSample.refl s)
  | format v n m =>
    exact .kept (idealAfter_of_requested hreq (by simp) (by simp)) (formatStep_sameTimer v n m (openStep who rest s))
      (formatStep_sameSample v n m (openStep who rest s))
  | begin _ op hunit =>
    have hideal := idealAfter_of_requested hreq (by rintro rfl; cases hunit) (by rintro src rfl; cases hunit)
    exact .kept hideal (SameTimer.refl s) (SameSample.refl s)
  | atOnce _ r hunit =>
    have hideal := idealAfter_of_requested hreq (by rintro rfl; cases hunit) (by rintro src rfl; cases hunit)
    exact .kept hideal (SameTimer.refl s) (SameSample.refl s)

theorem hostStep_tickCounterStep {s u : State} {ans : Answer} {rest : List Slot} (hideal : ∀ n, idealAfter s n = n)
    (h : hostStep ans (openStep .host rest s) = .next u) : TickCounterStep s (resumeHost u) := by
  obtain ⟨-, -, rfl⟩ | ⟨htc, rfl⟩ | ⟨-, r, -, hr⟩ := hostStep_cases h
  · exact .kept hideal (SameTimer.refl s) (SameSample.refl s)
  · rw [sampleStep_openStep]
    exact .sampled rest hideal htc
  · obtain ⟨hout, -, -⟩ := ldStep_next hr
    exact .kept hideal hout.sameTimer hout.sameSample

/-- One inversion lemma for what `step` does to unit TC. -/
theorem step_tickCounterStep {s t : State} (h : step s = .next t) : TickCounterStep s t := by
  cases step_next h with
  | idle hs =>
    exact .kept (idealAfter_of_not_requested (by simp [requested, hs])) (SameTimer.refl s) (SameSample.refl s)
  | request who fmt bytes rest i tail u hs hd hu => exact exec_tickCounterStep (requested_eq hs hd) hu
  | proceed ans rest u hs hu =>
    exact hostStep_tickCounterStep (idealAfter_of_not_requested (by simp [requested, hs])) hu
  | ready rest hs =>
    exact .kept (idealAfter_of_not_requested (by simp [requested, hs])) (SameTimer.refl s) (SameSample.refl s)

/-! #### The ideal count is kept (rule R105) -/

theorem SameTimer.idealIs {s t : State} {n : Nat} (h : SameTimer s t) (hn : IdealIs s n) : IdealIs t n := by
  obtain ⟨hcnt, htally, hovf, -⟩ := h
  rw [IdealIs, hcnt, htally, hovf]
  exact hn

theorem countTick_wrap {s : State} (h : s.cnt = 0xFFFF#16) : (countTick s).cnt = 0#16 ∧ (countTick s).ovf = true := by
  simp [h, ovfAfterTick]

theorem countTick_no_wrap {s : State} (h : s.cnt ≠ 0xFFFF#16) :
    (countTick s).cnt.toNat = s.cnt.toNat + 1 ∧ (countTick s).ovf = s.ovf := by
  refine ⟨?_, by simp [ovfAfterTick, h]⟩
  have hlast := mt (cnt_eq_last_iff s.cnt).2 h
  rw [countTick_cnt]
  bv_omega

/-- A tick is counted: in the counter, or, where it wraps with `OVF` clear, as the overflow now pending. -/
theorem countTick_idealIs {s : State} {n : Nat} (hn : IdealIs s n) (hlost : ¬ (s.cnt = 0xFFFF#16 ∧ s.ovf = true)) :
    IdealIs (countTick s) (n + 1) := by
  unfold IdealIs at *
  by_cases hwrap : s.cnt = 0xFFFF#16
  · obtain ⟨hcnt, hovf⟩ := countTick_wrap hwrap
    have hclear : s.ovf = false := by simpa [hwrap] using hlost
    rw [hcnt, hovf, countTick_tally, hn, hwrap, hclear]
    simp
    omega
  · obtain ⟨hcnt, hovf⟩ := countTick_no_wrap hwrap
    rw [hcnt, hovf, countTick_tally, hn]
    omega

/-- The handler moves the pending overflow into the tally, which has room for it while the count fits. -/
theorem takeOverflow_idealIs {s : State} {n : Nat} (hn : IdealIs s n) (hovf : s.ovf = true)
    (hfits : n < 2 ^ s.cfg.tickWidth) : IdealIs (takeOverflow s) n := by
  have hroom : s.tally + 1 < 2 ^ s.cfg.tallyWidth := by
    rw [Config.tickWidth, Nat.pow_add] at hfits
    rw [IdealIs, hovf] at hn
    simp only [Bool.toNat_true] at hn
    omega
  rw [IdealIs, takeOverflow_tally, takeOverflow_ovf, takeOverflow_cnt, Nat.mod_eq_of_lt hroom, hn, hovf]
  rfl

theorem startTimer_idealIs (src : ClockSource) (s : State) : IdealIs (startTimer src s) 0 := by
  simp [IdealIs]

/-- Settles O19: a tick adds one to both sides, the handler and a sample leave the sum alone, and a start clears it. -/
theorem idealCountInvariant : Obligations.IdealCountInvariant := by
  intro s t n h hn hlost hfits
  cases step_tickCounterStep h with
  | kept hideal htimer => rw [hideal]; exact htimer.idealIs hn
  | tick hreq hr htimer =>
    rw [idealAfter_tick hreq hr]
    exact htimer.idealIs (countTick_idealIs hn fun ⟨hcnt, hovf⟩ => hlost ⟨⟨⟨_, hreq⟩, hr, hcnt⟩, hovf⟩)
  | overflow hideal he htimer =>
    obtain ⟨hovf, -, -⟩ := (handlerEnabled_iff s).1 he
    rw [hideal] at hfits ⊢
    exact htimer.idealIs (takeOverflow_idealIs hn hovf hfits)
  | start src hreq htimer => rw [idealAfter_start hreq]; exact htimer.idealIs (startTimer_idealIs src s)
  | issued hideal htimer => rw [hideal]; exact htimer.idealIs hn
  | sampled rest hideal => rw [hideal]; exact (sampleStep_sameTimer s).idealIs hn

/-! #### Samples are monotone (rules R106, R107) -/

/-- What the obligation asks of the step from `s` to `t`, with the ideal count `n` after it. -/
def StaysWithin (s t : State) (last n : Nat) : Prop :=
  last ≤ lastSample s t last ∧ lastSample s t last ≤ n ∧ SampleWithin t (lastSample s t last) n

/-- A step that returns no sample leaves the last one as it was. -/
theorem staysWithin_of_no_return {s t : State} {last n : Nat} (hret : ¬ (s.seqTc = .s6 ∧ t.seqTc = .idle))
    (hlast : last ≤ n) (hw : SampleWithin t last n) : StaysWithin s t last n := by
  have hsame : lastSample s t last = last := if_neg hret
  rw [StaysWithin, hsame]
  exact ⟨le_rfl, hlast, hw⟩

theorem SameSample.no_return {s t : State} (h : SameSample s t) : ¬ (s.seqTc = .s6 ∧ t.seqTc = .idle) := by
  obtain ⟨hseq, -⟩ := h
  simp +contextual [hseq]

theorem SameSample.sampleWithin {s t : State} {last n : Nat} (hs : SameSample s t) (ht : SameTimer s t)
    (hw : SampleWithin s last n) : SampleWithin t last n := by
  obtain ⟨hseq, htL, hrL, hpL⟩ := hs
  obtain ⟨hcnt, htally, hovf, -⟩ := ht
  simpa [SampleWithin, latchedCount, hseq, htL, hrL, hpL, hcnt, htally, hovf] using hw

/-- Between S3 and S4 a tick that does not wrap moves the counter up and leaves the flag; elsewhere it moves nothing a
latch will be joined with. -/
theorem countTick_sampleWithin {s : State} {last n : Nat} (hw : SampleWithin s last n)
    (hwrap : s.seqTc = .s4 → s.cnt ≠ 0xFFFF#16) : SampleWithin (countTick s) last (n + 1) := by
  unfold SampleWithin at *
  rw [countTick_seqTc]
  cases hq : s.seqTc <;> simp only [hq] at hw ⊢
  case s3 => exact hw
  case s34 => exact hw
  case s4 =>
    obtain ⟨hcnt, hovf⟩ := countTick_no_wrap (hwrap hq)
    obtain ⟨htL, hlow, hle⟩ := hw
    exact ⟨htL, by rw [hovf]; exact hlow, by rw [hcnt]; exact Nat.le_succ_of_le hle⟩
  case s5 | s6 => exact hw.imp_right Nat.le_succ_of_le

/-- The handler runs outside the critical section, where no latch is still to be joined with the tally or the flag. -/
theorem takeOverflow_sampleWithin {s : State} {last n : Nat} (hw : SampleWithin s last n)
    (hin : s.seqTc.inside = false) : SampleWithin (takeOverflow s) last n := by
  unfold SampleWithin at *
  rw [takeOverflow_seqTc]
  cases hq : s.seqTc <;> simp only [hq, SeqTc.inside, reduceCtorEq] at hw hin ⊢
  case s6 => exact hw

theorem sampleWithin_captureStep {s : State} (last n : Nat) (hseq : s.seqTc = captureStep s.cfg) (htL : s.tL = s.tally) :
    SampleWithin s last n := by
  cases hcap : s.cfg.capture <;> simp [SampleWithin, hseq, captureStep, hcap, htL]

/-- Each micro-step but the last latches what the ideal count is made of. -/
theorem sampleStep_sampleWithin {s : State} {last n : Nat} (hn : IdealIs s n) (hlast : last ≤ n)
    (hw : SampleWithin s last n) : SampleWithin (sampleStep s) last n := by
  unfold IdealIs at hn
  cases hq : s.seqTc <;> simp only [SampleWithin, hq] at hw
  case idle => simp [sampleStep, SampleWithin, hq]
  case s1 => rw [sampleStep_s1 hq]; trivial
  case s2 => rw [sampleStep_s2 hq]; exact sampleWithin_captureStep last n rfl rfl
  case s3 => rw [sampleStep_s3 hq]; exact ⟨hw, hlast.trans_eq hn, le_rfl⟩
  case s4 =>
    obtain ⟨htL, hlow, hle⟩ := hw
    rw [← htL] at hn hlow
    have hhigh : (s.tL + s.ovf.toNat) * 65536 + s.rL.toNat ≤ n := by omega
    rw [sampleStep_s4 hq]
    exact ⟨hlow, hhigh⟩
  case s34 =>
    rw [← hw] at hn
    rw [sampleStep_s34 hq]
    exact ⟨hlast.trans_eq hn, hn.ge⟩
  case s5 => rw [sampleStep_s5 hq]; exact hw
  case s6 => rw [sampleStep_s6 hq]; trivial

/-- S6 returns what was latched, which fits. -/
theorem lastSample_s6 {s : State} {n : Nat} (last : Nat) (h : s.seqTc = .s6) (hle : latchedCount s ≤ n)
    (hfits : n < 2 ^ s.cfg.tickWidth) : lastSample s (sampleStep s) last = latchedCount s := by
  rw [sampleStep_s6 h]
  simp [lastSample, h, Nat.mod_eq_of_lt (hle.trans_lt hfits)]

theorem sampleStep_staysWithin {s : State} {last n : Nat} (hn : IdealIs s n) (hlast : last ≤ n)
    (hw : SampleWithin s last n) (hfits : n < 2 ^ s.cfg.tickWidth) : StaysWithin s (sampleStep s) last n := by
  by_cases h6 : s.seqTc = .s6
  · have hlatched : last ≤ latchedCount s ∧ latchedCount s ≤ n := by simpa [SampleWithin, h6] using hw
    obtain ⟨hlow, hhigh⟩ := hlatched
    rw [StaysWithin, lastSample_s6 last h6 hhigh hfits, sampleStep_s6 h6]
    exact ⟨hlow, hhigh, trivial⟩
  · exact staysWithin_of_no_return (fun h => h6 h.1) hlast (sampleStep_sampleWithin hn hlast hw)

/-- Settles O20: a tick and the handler leave the latches standing for a count between the last sample and the ideal
count, a micro-step latches or returns such a count, and a restart is ruled out. -/
theorem samplesAreMonotone : Obligations.SamplesAreMonotone := by
  intro s t last n hinv h hn hlast hw hlost hhazard hrestart hfits
  change StaysWithin s t last (idealAfter s n)
  cases step_tickCounterStep h with
  | kept hideal htimer hsample =>
    rw [hideal]
    exact staysWithin_of_no_return hsample.no_return hlast (hsample.sampleWithin htimer hw)
  | tick hreq hr htimer hsample =>
    have hwrap : s.seqTc = .s4 → s.cnt ≠ 0xFFFF#16 := fun hq hcnt => hhazard ⟨⟨⟨_, hreq⟩, hr, hcnt⟩, hq⟩
    have hticked : SameSample (countTick s) t := hsample
    rw [idealAfter_tick hreq hr]
    exact staysWithin_of_no_return hsample.no_return (Nat.le_succ_of_le hlast)
      (hticked.sampleWithin htimer (countTick_sampleWithin hw hwrap))
  | overflow hideal he htimer hsample =>
    obtain ⟨-, -, hmask⟩ := (handlerEnabled_iff s).1 he
    have hin : s.seqTc.inside = false := hinv.maskInside.symm.trans hmask
    have htaken : SameSample (takeOverflow s) t := hsample
    rw [hideal]
    exact staysWithin_of_no_return hsample.no_return hlast
      (htaken.sampleWithin htimer (takeOverflow_sampleWithin hw hin))
  | start src hreq => exact absurd ⟨_, src, hreq⟩ hrestart
  | issued hideal _ hidle hs1 =>
    rw [hideal]
    exact staysWithin_of_no_return (by simp [hidle]) hlast (by simp [SampleWithin, hs1])
  | sampled rest hideal =>
    rw [hideal] at hfits ⊢
    exact sampleStep_staysWithin hn hlast hw hfits

end Sys2Proof.Machine

/-! ### The formatter (spec 41_formatter.md) -/

namespace Sys2Proof.Machine

/-! #### Admission (rules R85, R125) -/

theorem exec_fmtFormat {s : State} {v : Nat} (n m : Nat) (hfree : HostFree s) (hv : v < 2 ^ s.cfg.fmtWidth) :
    exec (.fmtFormat v n m) s = .next (formatStep v n m s) :=
  (hostOperation_free _ hfree).trans (if_pos hv)

theorem exec_fmtFormat_next {s t : State} {v n m : Nat} (h : exec (.fmtFormat v n m) s = .next t) :
    t = formatStep v n m s := by
  cases exec_next h with
  | format => rfl
  | begin _ _ hld => cases hld
  | atOnce _ _ hld => cases hld

/-! #### The three outcomes (rules R125, R130) -/

theorem formatStep_range {v n m : Nat} (s : State) (hrange : 10 ^ (n + m) ≤ v) :
    formatStep v n m s = returnResult (.error .fmtRange) (voidOut s) :=
  if_pos hrange

theorem formatStep_capacity {s : State} {v n m : Nat} (hv : v < 10 ^ (n + m))
    (hcap : s.cfg.fmtCap < formattedLength v n m) :
    formatStep v n m s = returnResult (.error (.fmtCapacity (formattedLength v n m))) (voidOut s) :=
  (if_neg hv.not_ge).trans (if_pos hcap)

theorem formatStep_fits {s : State} {v n m : Nat} (hv : v < 10 ^ (n + m))
    (hcap : formattedLength v n m ≤ s.cfg.fmtCap) :
    formatStep v n m s = returnResult .ok (writeOut (formattedString v n m) s) :=
  (if_neg hv.not_ge).trans (if_neg hcap.not_gt)

/-- Settles O23: a value in range with room for its string takes the third outcome. -/
theorem formatWritesTheString : Obligations.FormatWritesTheString := by
  intro s v n m hfree hwidth hv hcap
  rw [exec_fmtFormat n m hfree hwidth, formatStep_fits hv hcap, ← formattedString_length]
  rfl

/-- Settles O25: the range test comes before the capacity test. -/
theorem formatErrors : Obligations.FormatErrors := by
  intro s v n m hfree hwidth
  rw [exec_fmtFormat n m hfree hwidth]
  constructor
  · intro hrange
    rw [formatStep_range s hrange]
    rfl
  · intro hv hcap
    rw [formatStep_capacity hv hcap]
    rfl

/-- Settles O26: the strings and the digits are closed terms of the model, which evaluates them. -/
theorem formatExamples : Obligations.FormatExamples := by
  unfold Obligations.FormatExamples
  decide

/-! #### The characters that can be read (rules R46, R133) -/

theorem outChar_voidOut (r : Result) (s : State) (i : Nat) : outChar (returnResult r (voidOut s)) i = none := by
  simp [outChar]

/-- Only the string can be read: the bytes behind it in `OUT` lie at or beyond `OUT_LEN`. -/
theorem outChar_writeOut (r : Result) (str : List Byte) (s : State) (i : Nat) :
    outChar (returnResult r (writeOut str s)) i = str[i]? := by
  rcases Nat.lt_or_ge i str.length with hi | hi
  · simp [outChar, hi, List.getElem?_append_left hi]
  · simp [outChar, hi.not_gt]

/-- Settles O27: the operands and `FMT_CAP` choose the outcome, and what each outcome returns and leaves to be read
names no other element of the state. -/
theorem formatDependsOnOperandsAlone : Obligations.FormatDependsOnOperandsAlone := by
  intro s t s' t' v n m hcfg hs ht
  rw [exec_fmtFormat_next hs, exec_fmtFormat_next ht]
  rcases Nat.lt_or_ge v (10 ^ (n + m)) with hv | hrange
  · rcases Nat.lt_or_ge s.cfg.fmtCap (formattedLength v n m) with hcap | hcap
    · rw [formatStep_capacity hv hcap, formatStep_capacity hv (hcfg ▸ hcap)]
      simp [outChar_voidOut]
    · rw [formatStep_fits hv hcap, formatStep_fits hv (hcfg ▸ hcap)]
      simp [outChar_writeOut]
  · rw [formatStep_range s hrange, formatStep_range t hrange]
    simp [outChar_voidOut]

end Sys2Proof.Machine

/-! ### Display commands (spec 42_display_commands.md): the bytes the rules print (rules R145 to R152) -/

namespace Sys2Proof.Machine

/-- Settles O34: the bytes are closed terms of the model, which evaluates them. -/
theorem commandExamples : Obligations.CommandExamples := by
  unfold Obligations.CommandExamples
  decide

end Sys2Proof.Machine

/-! ### Display commands: failed transfers (rules R154, R201, R203) -/

namespace Sys2Proof.Machine

theorem hostStep_active {s : State} {r : LdRun} (ans : Answer) (htc : s.seqTc = .idle) (hld : s.seqLd = .active r) :
    hostStep ans s = ldStep r ans s := by
  simp [hostStep, htc, hld]

/-- What a failed write changes beside the controller (rule R41): the lines, and the trace by its event. -/
theorem busWrite_fail_eq (b l : Byte) (s : State) :
    ∃ (ctrl : Controller) (draws : Nat), busWrite b (.fail l) s = { s with
      lines := l, ctrl := ctrl, draws := draws, trace := s.trace ++ [.writeFailed s.cfg.lcdAddr b] } :=
  ⟨_, _, busWrite_frame b (.fail l) s⟩

theorem ldStep_phase_fail {s : State} {r : LdRun} {g : Nat} {ph : Phase} {c : Command} {nib : Nibble} (l : Byte)
    (hp : r.place = .phase g ph) (hn : r.nibble s.cfg g = some (c, nib)) :
    ldStep r (.fail l) s = .next (raiseLd (.busError .write r.transfers)
      (busWrite (pack s.cfg nib c.rs false ph.enable) (.fail l) s)) := by
  simp [ldStep, hp, hn, phaseStep, afterWrite, Answer.isOk]

theorem ldStep_probe_fail {s : State} {r : LdRun} {half : Half} {ph : Phase} (l : Byte)
    (hp : r.place = .probe half ph) :
    ldStep r (.fail l) s =
      .next (raiseLd (.busError .write r.transfers) (busWrite (probeByte s.cfg ph) (.fail l) s)) := by
  simp [ldStep, hp, probeStep, afterWrite, Answer.isOk]

theorem ldStep_read_fail {s : State} {r : LdRun} {half : Half} (l : Byte) (hp : r.place = .read half) :
    ldStep r (.fail l) s =
      .next (raiseLd (.busError .read r.transfers) (emit (.readFailed s.cfg.lcdAddr) s)) := by
  simp [ldStep, hp, readStep, busRead]

/-- Settles O40: at each of the three places of a transfer its failure is the event, then `BusError` is raised. -/
theorem busFailureAborts : Obligations.BusFailureAborts := by
  intro s r l htc hld hplaced hgap hlong
  rw [hostStep_active _ htc hld]
  cases hp : r.place with
  | phase g ph =>
    obtain ⟨⟨c, nib⟩, hn⟩ := Option.isSome_iff_exists.1 ((placed_phase hp).symm.trans hplaced)
    obtain ⟨ctrl, draws, hw⟩ := busWrite_fail_eq (pack s.cfg nib c.rs false ph.enable) l s
    refine ⟨_, ldStep_phase_fail l hp hn, ?_⟩
    rw [hw]
    exact ⟨rfl, ⟨c, nib, hn, rfl, rfl, rfl⟩, by and_intros <;> rfl⟩
  | probe half ph =>
    obtain ⟨ctrl, draws, hw⟩ := busWrite_fail_eq (probeByte s.cfg ph) l s
    refine ⟨_, ldStep_probe_fail l hp, ?_⟩
    rw [hw]
    exact ⟨rfl, ⟨rfl, rfl, rfl⟩, by and_intros <;> rfl⟩
  | read half =>
    refine ⟨_, ldStep_read_fail l hp, rfl, ⟨rfl, rfl, rfl, rfl⟩, ?_⟩
    and_intros <;> rfl
  | gap g ph => exact absurd hp (hgap g ph)
  | longDelay => exact absurd hp hlong

end Sys2Proof.Machine

/-! ### Display commands: the status read (rules R79, R144, R153) -/

namespace Sys2Proof.Machine

section
variable {s t : State} {r : LdRun} {b1 b2 v x : Byte} {es : List Event} {rest : List Slot}

/-- An operation just issued is under way, whatever is scheduled. -/
theorem underWay_beginLd (op : LdOp) (sched : List Slot) (hf : HostFree s) :
    UnderWay (beginLd op s) s.b1 s.b2 [] sched { beginLd op s with schedule := sched } := by
  obtain ⟨ha, htc, -⟩ := hf
  exact ⟨htc, .active (LdRun.start op), s.lines, s.ctrl, s.draws, by simp [beginLd, ha]⟩

/-- The answers that one half of a status read takes: its writes are answered `x`, its read `v`. -/
def halfAnswers (x v : Byte) : List Slot :=
  [.proceed (.ok x), .proceed (.ok x), .proceed (.ok v), .proceed (.ok x)]

/-- The events of one half of a status read that returns `v` (rule R144). -/
def halfEvents (cfg : Config) (v : Byte) : List Event :=
  [.wrote cfg.lcdAddr (probeByte cfg .one), .wrote cfg.lcdAddr (probeByte cfg .two), .read cfg.lcdAddr v,
   .wrote cfg.lcdAddr (probeByte cfg .three)]

theorem halfEvents_append (cfg : Config) (v w : Byte) : halfEvents cfg v ++ halfEvents cfg w = statusEvents cfg v w :=
  rfl

/-- One half of a status read latches the byte its read returns, whatever its writes are answered. -/
theorem UnderWay.steps_halfAnswers {half : Half} (h : UnderWay s b1 b2 es (halfAnswers x v ++ rest) t)
    (hr : t.seqLd = .active r) (hp : r.place = .probe half .one) (hpath : s.cfg.readPath = .bareOracle) :
    ∃ w, steps 4 t = .next (resumeHost (afterProbe (r.passed 4 (.probe half .three)) half .three w)) ∧
      UnderWay s (half.intoB1 v b1) (half.intoB2 v b2) (es ++ halfEvents s.cfg v) rest w := by
  obtain ⟨w₁, h₁, u₁⟩ := h.step_probe hr hp
  obtain ⟨w₂, h₂, u₂⟩ := (u₁.setRun (r.passed 1 (.probe half .two))).step_probe rfl rfl
  obtain ⟨w₃, h₃, u₃⟩ := (u₂.setRun (r.passed 2 (.read half))).step_read rfl rfl hpath
  obtain ⟨w₄, h₄, u₄⟩ := (u₃.setRun (r.passed 3 (.probe half .three))).step_probe rfl rfl
  refine ⟨w₄, (steps_succ_of_step h₁).trans ((steps_succ_of_step h₂).trans ((steps_succ_of_step h₃).trans
    (steps_succ_of_step h₄))), ?_⟩
  simpa [halfEvents] using u₄

/-- A whole status read whose halves return `v` and `w` (rule R144): the latches hold them, and its end follows. -/
theorem UnderWay.steps_statusAnswers {w : Byte}
    (h : UnderWay s b1 b2 es (halfAnswers x v ++ (halfAnswers x w ++ rest)) t) (hr : t.seqLd = .active r)
    (hp : r.place = .probe .upper .one) (hpath : s.cfg.readPath = .bareOracle) :
    ∃ z, steps 8 t = .next (resumeHost (afterStatus (r.passed 8 (.probe .lower .three)) z)) ∧
      UnderWay s v w (es ++ statusEvents s.cfg v w) rest z := by
  obtain ⟨z₁, h₁, u₁⟩ := h.steps_halfAnswers hr hp hpath
  obtain ⟨z₂, h₂, u₂⟩ := (u₁.setRun (r.passed 4 (.probe .lower .one))).steps_halfAnswers rfl rfl hpath
  rw [List.append_assoc, halfEvents_append] at u₂
  exact ⟨z₂, (steps_add 4 4 _ _ h₁).trans h₂, u₂⟩

theorem UnderWay.afterStatus_status (h : UnderWay s b1 b2 es rest t) (hop : r.op = .status) :
    afterStatus r t = finishLd (.status (busyOf (statusByte b1 b2)) (addressCounterOf (statusByte b1 b2))) t := by
  obtain ⟨-, q, l, c, d, rfl⟩ := h
  simp [afterStatus, hop]

theorem addressCounterOf_statusByte (b1 b2 : Byte) :
    addressCounterOf (statusByte b1 b2) = b1.extractLsb' 4 3 ++ b2.extractLsb' 4 4 := by
  have join : ∀ hi lo : Nibble, addressCounterOf (hi ++ lo) = hi.extractLsb' 0 3 ++ lo := by decide
  have low : ∀ b : Byte, (upperNibble b).extractLsb' 0 3 = b.extractLsb' 4 3 := by decide
  rw [statusByte, join, low, upperNibble]

end

/-- Both rows of the status read issue it (rule R153). -/
theorem exec_statusRead {s : State} {i : Instr} (hf : HostFree s) (hi : i = .ldStatus ∨ ∃ u, i = .statusRead u) :
    exec i s = .next (beginLd .status s) := by
  rcases hi with rfl | ⟨u, rfl⟩ <;> exact hostOperation_free _ hf

/-- Settles O36: the two halves follow each other, and the operation returns what their bytes say. -/
theorem statusReadReturnsBusyAndAc : Obligations.StatusReadReturnsBusyAndAc := by
  intro s i v w x rest hf hi hpath
  have h₀ := underWay_beginLd .status (halfAnswers x v ++ (halfAnswers x w ++ rest)) hf
  obtain ⟨z, h, u⟩ := h₀.steps_statusAnswers rfl rfl hpath
  rw [u.afterStatus_status rfl, busyOf_statusByte, addressCounterOf_statusByte] at h
  refine ⟨_, _, exec_statusRead hf hi, rfl, h, ?_⟩
  obtain ⟨-, q, l, c, d, rfl⟩ := u
  and_intros <;> rfl

end Sys2Proof.Machine

/-! ### Display commands: what a run of writes does to the peers (rules R185 to R187, R197) -/

namespace Sys2Proof.Machine

/-! #### The controller's reaction depends on the parameters, the controller and the draws alone -/

/-- `t` has the parameters, the controller and the draws of `p`, on which the controller's reactions depend. -/
structure SameController (p t : State) : Prop where
  cfg : t.cfg = p.cfg
  ctrl : t.ctrl = p.ctrl
  draws : t.draws = p.draws

section
variable {p t u : State}

theorem SameController.refl (p : State) : SameController p p := ⟨rfl, rfl, rfl⟩

theorem SameController.trans (h : SameController p t) (k : SameController t u) : SameController p u :=
  ⟨k.cfg.trans h.cfg, k.ctrl.trans h.ctrl, k.draws.trans h.draws⟩

theorem SameController.drawController (h : SameController p t) :
    SameController (drawController p) (drawController t) := by
  obtain ⟨hcfg, -, hdraws⟩ := h
  exact ⟨hcfg, by simp [hdraws], by simp [hdraws]⟩

theorem SameController.drawContents (h : SameController p t) :
    SameController (drawContents p) (drawContents t) := by
  obtain ⟨hcfg, hctrl, hdraws⟩ := h
  exact ⟨hcfg, by simp [Machine.drawContents, hctrl, hdraws], by simp [Machine.drawContents, hdraws]⟩

theorem SameController.advanceAddress (h : SameController p t) :
    SameController (advanceAddress p) (advanceAddress t) := by
  obtain ⟨hcfg, hctrl, hdraws⟩ := h
  unfold Machine.advanceAddress
  rw [hctrl, hdraws]
  split <;> exact ⟨hcfg, rfl, rfl⟩

theorem SameController.controllerCommand (h : SameController p t) (c : Option Command) :
    SameController (controllerCommand c p) (controllerCommand c t) := by
  obtain ⟨hcfg, hctrl, hdraws⟩ := h
  unfold Machine.controllerCommand
  rw [hctrl]
  split
  case h_8 => exact SameController.advanceAddress ⟨hcfg, rfl, hdraws⟩
  case h_9 => exact SameController.drawContents ⟨hcfg, hctrl, hdraws⟩
  all_goals exact ⟨hcfg, rfl, hdraws⟩

theorem SameController.latchNibble (h : SameController p t) (rs : Bool) (nib : Nibble) :
    SameController (latchNibble rs nib p) (latchNibble rs nib t) := by
  have hdraw := h.drawController
  obtain ⟨hcfg, hctrl, hdraws⟩ := h
  unfold Machine.latchNibble
  rw [hctrl, hcfg]
  split
  · split
    · exact ⟨rfl, rfl, hdraws⟩
    · exact hdraw
  · split
    · exact hdraw
    · split
      · exact ⟨rfl, rfl, hdraws⟩
      · refine SameController.controllerCommand ?_ _
        exact ⟨rfl, rfl, hdraws⟩
  · exact hdraw

theorem SameController.controllerEdge (h : SameController p t) (was now : Byte) :
    SameController (controllerEdge was now p) (controllerEdge was now t) := by
  have hdraw := h.drawController
  have hlatch := h.latchNibble
  have hsame := h
  obtain ⟨hcfg, hctrl, hdraws⟩ := h
  unfold Machine.controllerEdge
  rw [hcfg, hctrl]
  split
  · split
    · split
      · split
        · exact hdraw
        · exact ⟨rfl, rfl, hdraws⟩
      · exact hlatch _ _
    · exact hdraw
  · exact hsame

theorem latchNibble_cfg (rs : Bool) (nib : Nibble) (s : State) : (latchNibble rs nib s).cfg = s.cfg := by
  rw [latchNibble_peers rs nib s]

/-! #### Runs of writes -/

/-- The bridge and the controller after the bytes written one after another, no transfer failing (rule R185). -/
def writeAll (bs : List Byte) (s : State) : State := bs.foldl (fun p b => busWrite b (.ok b) p) s

/-- `t` shows the peers of `p`: the lines, and the controller with what its reactions depend on. -/
structure SameBus (p t : State) : Prop where
  lines : t.lines = p.lines
  controller : SameController p t

theorem SameBus.trans (h : SameBus p t) (k : SameBus t u) : SameBus p u :=
  ⟨k.lines.trans h.lines, h.controller.trans k.controller⟩

theorem sameBus_openStep (rest : List Slot) (s : State) : SameBus s (openStep .host rest s) := ⟨rfl, rfl, rfl, rfl⟩

theorem sameBus_delay (us : Nat) (s : State) : SameBus s (delay us s) := ⟨rfl, rfl, rfl, rfl⟩

theorem sameBus_setRun (r : LdRun) (s : State) : SameBus s (resumeHost (setRun r s)) := ⟨rfl, rfl, rfl, rfl⟩

/-- The peers see of a write its byte, not the oracle's answer. -/
theorem SameBus.busWrite (h : SameBus p t) (b v x : Byte) : SameBus (busWrite b (.ok v) p) (busWrite b (.ok x) t) := by
  obtain ⟨hlines, hctrl⟩ := h
  have hedge : SameController (Machine.controllerEdge p.lines b p) (Machine.controllerEdge t.lines b t) := by
    rw [hlines]
    exact hctrl.controllerEdge p.lines b
  exact ⟨rfl, hedge.cfg, hedge.ctrl, hedge.draws⟩

theorem SameBus.writeAll (h : SameBus p t) (bs : List Byte) : SameBus (writeAll bs p) (writeAll bs t) := by
  induction bs generalizing p t with
  | nil => exact h
  | cons b bs ih => exact ih (h.busWrite b b b)

theorem writeAll_append (bs cs : List Byte) (s : State) : writeAll (bs ++ cs) s = writeAll cs (writeAll bs s) :=
  List.foldl_append

/-- Two runs of writes with the sequencer moved between them are one. -/
theorem SameBus.andThen {w₁ w₂ : State} {r : LdRun} {bs cs : List Byte} (h : SameBus (Machine.writeAll bs t) w₁)
    (k : SameBus (Machine.writeAll cs (resumeHost (setRun r w₁))) w₂) :
    SameBus (Machine.writeAll (bs ++ cs) t) w₂ := by
  rw [writeAll_append]
  exact ((h.trans (sameBus_setRun r w₁)).writeAll cs).trans k

theorem writeAll_lines {bs : List Byte} {b : Byte} (s : State) (h : bs.getLast? = some b) :
    (writeAll bs s).lines = b := by
  obtain ⟨cs, rfl⟩ := List.getLast?_eq_some_iff.1 h
  rw [writeAll_append]
  exact busWrite_lines b (.ok b) _

end

/-! #### A nibble group at the controller (rules R82, R187, R197) -/

/-- The controller after nibbles latched one after another. -/
def latchAll (rs : Bool) (nibs : List Nibble) (s : State) : State := nibs.foldl (fun p nib => latchNibble rs nib p) s

section
variable {cfg : Config} {p t : State} {rs : Bool} {nib : Nibble}

theorem SameController.latchAll (h : SameController p t) (rs : Bool) (nibs : List Nibble) :
    SameController (latchAll rs nibs p) (latchAll rs nibs t) := by
  induction nibs generalizing p t with
  | nil => exact h
  | cons nib nibs ih => exact ih (h.latchNibble rs nib)

/-- The controller after a write is as its reaction to the lines leaves it. -/
theorem sameController_busWrite {b : Byte} (v : Byte) (hedge : controllerEdge p.lines b p = t) :
    SameController t (busWrite b (.ok v) p) := by
  subst hedge
  exact ⟨rfl, rfl, rfl⟩

/-- While Enable is low before a write, the controller does not react to it. -/
theorem sameController_busWrite_low (b v : Byte) (hlow : enableOf p.cfg p.lines = false) :
    SameController p (busWrite b (.ok v) p) := by
  have hedge : controllerEdge p.lines b p = p := by simp [controllerEdge, hlow]
  exact sameController_busWrite v hedge

/-- While Enable is high after a write, the controller does not react to it. -/
theorem sameController_busWrite_high {b : Byte} (v : Byte) (hhigh : enableOf p.cfg b = true) :
    SameController p (busWrite b (.ok v) p) := by
  have hedge : controllerEdge p.lines b p = p := by simp [controllerEdge, hhigh]
  exact sameController_busWrite v hedge

/-- Where Enable alone falls on a packed write byte, the controller latches its nibble. -/
theorem sameController_busWrite_fall (v : Byte) (hdist : DistinctLines cfg) (hcfg : p.cfg = cfg)
    (hlines : p.lines = pack cfg nib rs false true) :
    SameController (latchNibble rs nib p) (busWrite (pack cfg nib rs false false) (.ok v) p) := by
  have hedge : controllerEdge p.lines (pack cfg nib rs false false) p = latchNibble rs nib p := by
    simp [controllerEdge, hcfg, hlines, enableOf_pack hdist, nibbleOf_pack, rsOf_pack hdist, rwOf_pack hdist]
  exact sameController_busWrite v hedge

/-- A nibble group is one nibble at the controller, taken where Enable falls, and leaves Enable low. -/
theorem writeAll_nibbleGroup (hdist : DistinctLines p.cfg) (hlow : enableOf p.cfg p.lines = false) :
    SameController (latchNibble rs nib p) (writeAll (nibbleGroup p.cfg nib rs false) p) ∧
      (writeAll (nibbleGroup p.cfg nib rs false) p).lines = pack p.cfg nib rs false false := by
  have h₁ := sameController_busWrite_low (pack p.cfg nib rs false false) (pack p.cfg nib rs false false) hlow
  have h₂ := h₁.trans (sameController_busWrite_high (b := pack p.cfg nib rs false true)
    (pack p.cfg nib rs false true) (by rw [h₁.cfg]; exact enableOf_pack hdist nib rs false true))
  have h₃ := sameController_busWrite_fall (nib := nib) (rs := rs) (pack p.cfg nib rs false false) hdist h₂.cfg rfl
  exact ⟨(h₂.latchNibble rs nib).trans h₃, rfl⟩

/-- The nibble groups of a list of nibbles are those nibbles at the controller, and leave Enable low. -/
theorem writeAll_nibbleGroups (hdist : DistinctLines cfg) (nibs : List Nibble) (hcfg : p.cfg = cfg)
    (hlow : enableOf cfg p.lines = false) :
    SameController (latchAll rs nibs p) (writeAll (nibs.flatMap fun nib => nibbleGroup cfg nib rs false) p) ∧
      enableOf cfg (writeAll (nibs.flatMap fun nib => nibbleGroup cfg nib rs false) p).lines = false := by
  induction nibs generalizing p with
  | nil => exact ⟨.refl p, hlow⟩
  | cons nib nibs ih =>
    subst hcfg
    obtain ⟨hnib, hlines⟩ := writeAll_nibbleGroup (nib := nib) (rs := rs) hdist hlow
    obtain ⟨hrest, hlow'⟩ := ih (p := writeAll (nibbleGroup p.cfg nib rs false) p)
      (hnib.cfg.trans (latchNibble_cfg rs nib p)) (hlines ▸ enableOf_pack hdist nib rs false false)
    rw [List.flatMap_cons, writeAll_append]
    exact ⟨(hnib.latchAll rs nibs).trans hrest, hlow'⟩

/-- A whole command at the controller is the nibbles it sends (rules R142, R143). -/
theorem writeAll_busSequence (c : Command) (hdist : DistinctLines p.cfg) (hlow : enableOf p.cfg p.lines = false) :
    SameController (latchAll c.rs (sentNibbles p.cfg c) p) (writeAll (busSequence p.cfg c) p) ∧
      enableOf p.cfg (writeAll (busSequence p.cfg c) p).lines = false :=
  writeAll_nibbleGroups hdist _ rfl hlow

/-- The controller once a command's bytes have been seen. -/
theorem SameBus.ctrl_of_busSequence {c : Command} (h : SameBus (Machine.writeAll (busSequence p.cfg c) p) t)
    (hdist : DistinctLines p.cfg) (hlow : enableOf p.cfg p.lines = false) :
    t.ctrl = (latchAll c.rs (sentNibbles p.cfg c) p).ctrl := by
  obtain ⟨hlatched, -⟩ := writeAll_busSequence c hdist hlow
  exact (hlatched.trans h.controller).ctrl

/-! #### A whole payload at the controller (rules R187, R194, R197) -/

/-- In the 8-bit state the mode-set nibble moves the controller to the 4-bit protocol (rule R187). -/
theorem latchNibble_modeSet (hmode : p.ctrl.mode = .eight) (hnib : nib = 0b0010#4) :
    latchNibble false nib p = { p with ctrl := { p.ctrl with mode := .four, half := .upper } } := by
  simp [latchNibble, hmode, hnib]

/-- In the 4-bit protocol the two nibbles of a payload are one command, which sets BUSY (rules R189, R197). -/
theorem latchAll_command {lay : FsLayout} {c : Command} (hlay : p.cfg.fsLayout = lay) (hfits : c.addressFits = true)
    (hmode : p.ctrl.mode = .four) (hhalf : p.ctrl.half = .upper) (hbusy : p.ctrl.busy = false) :
    latchAll c.rs [upperNibble (c.payload lay), lowerNibble (c.payload lay)] p = controllerCommand (some c)
      { p with ctrl := { p.ctrl with up := upperNibble (c.payload lay), half := .upper, busy := true } } := by
  have hword : classify lay (receivedWord c.rs (c.payload lay)) = some c := classify_word lay c hfits
  simp [latchAll, latchNibble, hlay, hmode, hhalf, hbusy, upperNibble_append_lowerNibble, hword]

/-- The upper nibble of a FunctionSet without `eight_bit_mode` is the mode-set nibble under each layout (rule R187). -/
theorem upperNibble_functionSet (lay : FsLayout) (n f : Bool) :
    upperNibble ((Command.functionSet false n f).payload lay) = 0b0010#4 := by
  cases lay <;> revert n f <;> decide

/-- A FunctionSet without `eight_bit_mode` at a controller in the 8-bit state (rules R143, R187, R194): the first upper
nibble sets the mode, and the pair after it is the command. -/
theorem latchAll_functionSet {c : Command} (n f : Bool) (hc : c = .functionSet false n f)
    (hmode : p.ctrl.mode = .eight) (hbusy : p.ctrl.busy = false) :
    (latchAll c.rs (sentNibbles p.cfg c) p).ctrl = { p.ctrl with
      mode := .four, half := .upper, up := upperNibble (c.payload p.cfg.fsLayout), busy := true
      eightBitMode := false, twoLineMode := n, bigFonts := f } := by
  subst hc
  have hset := latchNibble_modeSet hmode (upperNibble_functionSet p.cfg.fsLayout n f)
  change (latchAll (Command.functionSet false n f).rs [_, _] (latchNibble false _ p)).ctrl = _
  rw [hset, latchAll_command (lay := p.cfg.fsLayout)]
  case hbusy => exact hbusy
  all_goals rfl

/-- What a WriteData stores at a controller in step (rules R193, R197). -/
theorem latchAll_writeData_ddram {c : Command} {b : Byte} (hc : c = .writeData b) (hmode : p.ctrl.mode = .four)
    (hhalf : p.ctrl.half = .upper) (hbusy : p.ctrl.busy = false) :
    (latchAll c.rs (sentNibbles p.cfg c) p).ctrl.ddram = Memory.write p.ctrl.ddram p.ctrl.ac.toNat b := by
  subst hc
  have hpair := latchAll_command (c := .writeData b) rfl rfl hmode hhalf hbusy
  exact (congrArg (Controller.ddram ∘ State.ctrl) hpair).trans (advanceAddress_ddram _)

end

end Sys2Proof.Machine

/-! ### Display commands: `SEND` (rules R142, R143, R155) -/

namespace Sys2Proof.Machine

section
variable {s t w : State} {r : LdRun} {b1 b2 v : Byte} {es : List Event} {rest : List Slot} {g : Nat} {ph : Phase}
  {c : Command} {nib : Nibble}

/-- The events of a write of a command: its byte, and a delay where the command is spaced (rule R155). -/
def phaseEvents (cfg : Config) (c : Command) (b : Byte) : List Event :=
  .wrote cfg.lcdAddr b :: if spaced c then [.delay cfg.tPhaseUs] else []

/-- The events of a nibble group of a command. -/
def groupEvents (cfg : Config) (c : Command) (nib : Nibble) : List Event :=
  (nibbleGroup cfg nib c.rs false).flatMap (phaseEvents cfg c)

theorem groupEvents_eq (cfg : Config) (c : Command) (nib : Nibble) :
    groupEvents cfg c nib = phaseEvents cfg c (pack cfg nib c.rs false Phase.one.enable) ++
      (phaseEvents cfg c (pack cfg nib c.rs false Phase.two.enable) ++
        phaseEvents cfg c (pack cfg nib c.rs false Phase.three.enable)) := by
  simp [groupEvents, nibbleGroup, Phase.enable]

theorem sendEvents_eq (cfg : Config) (c : Command) :
    sendEvents cfg c = (sentNibbles cfg c).flatMap (groupEvents cfg c) :=
  List.flatMap_assoc

/-- The host's next steps, one for each event, every transfer answered `v`. -/
def proceeds (v : Byte) (es : List Event) : List Slot := List.replicate es.length (.proceed (.ok v))

theorem proceeds_append (v : Byte) (es es' : List Event) :
    proceeds v (es ++ es') = proceeds v es ++ proceeds v es' := by
  rw [proceeds, List.length_append, List.replicate_add]
  rfl

/-! #### One phase -/

theorem UnderWay.delay (h : UnderWay s b1 b2 es rest t) (us : Nat) :
    UnderWay s b1 b2 (es ++ [.delay us]) rest (delay us t) := by
  obtain ⟨htc, q, l, c, d, rfl⟩ := h
  rw [Machine.delay, emit, List.append_assoc]
  exact ⟨htc, q, l, c, d, rfl⟩

/-- A write phase that succeeds, and the state its write leaves (rule R141). -/
theorem UnderWay.step_write (h : UnderWay s b1 b2 es (.proceed (.ok v) :: rest) t) (hr : t.seqLd = .active r)
    (hp : r.place = .phase g ph) (hn : r.nibble s.cfg g = some (c, nib))
    (hw : w = Machine.busWrite (pack s.cfg nib c.rs false ph.enable) (.ok v) (Machine.openStep .host rest t)) :
    step t = .next (resumeHost
      (if spaced c then Machine.setRun (r.counted.goTo (.gap g ph)) w else afterPhase r.counted c g ph w)) := by
  rw [h.step_eq hr, hw]
  cases hs : spaced c <;> simp [ldStep, hp, h.cfg, hn, phaseStep, afterWrite, Answer.isOk, hs, closeStep]

/-- The delay after a phase (rule R155). -/
theorem UnderWay.step_gap (h : UnderWay s b1 b2 es (.proceed (.ok v) :: rest) t) (hr : t.seqLd = .active r)
    (hp : r.place = .gap g ph) (hn : r.nibble s.cfg g = some (c, nib)) :
    step t = .next (resumeHost
      (afterPhase r c g ph (Machine.delay s.cfg.tPhaseUs (Machine.openStep .host rest t)))) := by
  rw [h.step_eq hr]
  simp [ldStep, hp, h.cfg, hn, closeStep]

/-- What follows a command does not depend on the place it ended at. -/
theorem afterSend_goTo (r : LdRun) (p : Place) (c : Command) (s : State) :
    afterSend (r.goTo p) c s = afterSend r c s := by
  unfold afterSend
  cases hop : r.op <;> simp [LdRun.goTo, LdRun.startPoll, hop]

theorem afterSend_passed (r : LdRun) (m n : Nat) (p q : Place) (c : Command) (s : State) :
    afterSend ((r.passed m p).passed n q) c s = afterSend (r.passed (m + n) p) c s := by
  unfold afterSend
  cases hop : r.op <;> simp [LdRun.passed, LdRun.goTo, LdRun.startPoll, hop, Nat.add_assoc]

theorem afterPhase_goTo (r : LdRun) (p : Place) (c : Command) (g : Nat) (ph : Phase) (s : State) :
    afterPhase (r.goTo p) c g ph s = afterPhase r c g ph s := by
  unfold afterPhase
  simp only [afterSend_goTo]
  rfl

/-- After the last phase of a group the next group starts. -/
theorem afterPhase_more {n : Nat} {p : Place} (hg : g + 1 < (sentNibbles w.cfg c).length) :
    afterPhase (r.passed n p) c g .three w = Machine.setRun (r.passed n (.phase (g + 1) .one)) w :=
  if_pos hg

/-- After the last phase of the last group the command has been sent. -/
theorem afterPhase_last (hg : (sentNibbles w.cfg c).length = g + 1) : afterPhase r c g .three w = afterSend r c w :=
  if_neg (by omega)

/-- A phase of any command, with its delay if it has one. -/
theorem UnderWay.steps_phase {b : Byte} (hb : b = pack s.cfg nib c.rs false ph.enable)
    (h : UnderWay s b1 b2 es (proceeds v (phaseEvents s.cfg c b) ++ rest) t) (hr : t.seqLd = .active r)
    (hp : r.place = .phase g ph) (hn : r.nibble s.cfg g = some (c, nib)) :
    ∃ w, steps (phaseEvents s.cfg c b).length t = .next (resumeHost (afterPhase r.counted c g ph w)) ∧
      UnderWay s b1 b2 (es ++ phaseEvents s.cfg c b) rest w ∧ SameBus (writeAll [b] t) w := by
  subst hb
  have hbus := fun rest' => (sameBus_openStep rest' t).busWrite (pack s.cfg nib c.rs false ph.enable)
    (pack s.cfg nib c.rs false ph.enable) v
  cases hs : spaced c with
  | false =>
    simp only [phaseEvents, hs, proceeds] at h ⊢
    have h₁ := h.step_write hr hp hn rfl
    rw [hs, if_neg Bool.false_ne_true] at h₁
    exact ⟨_, steps_succ_of_step h₁, h.openStep.busWrite _ v, hbus _⟩
  | true =>
    simp only [phaseEvents, hs, proceeds] at h ⊢
    have h₁ := h.step_write hr hp hn rfl
    rw [hs, if_pos rfl] at h₁
    have u₁ := (h.openStep.busWrite (pack s.cfg nib c.rs false ph.enable) v).setRun (r.counted.goTo (.gap g ph))
    have h₂ := u₁.step_gap rfl rfl hn
    rw [afterPhase_goTo] at h₂
    have u₂ := u₁.openStep.delay s.cfg.tPhaseUs
    rw [List.append_assoc] at u₂
    exact ⟨_, (steps_succ_of_step h₁).trans (steps_succ_of_step h₂), u₂,
      (((hbus _).trans (sameBus_setRun _ _)).trans (sameBus_openStep _ _)).trans (sameBus_delay _ _)⟩

/-! #### One nibble group, and all of them -/

/-- A nibble group of any command: three phases, then what follows the last (rule R82). -/
theorem UnderWay.steps_nibble (h : UnderWay s b1 b2 es (proceeds v (groupEvents s.cfg c nib) ++ rest) t)
    (hr : t.seqLd = .active r) (hp : r.place = .phase g .one) (hn : r.nibble s.cfg g = some (c, nib)) :
    ∃ w, steps (groupEvents s.cfg c nib).length t =
        .next (resumeHost (afterPhase (r.passed 3 (.phase g .three)) c g .three w)) ∧
      UnderWay s b1 b2 (es ++ groupEvents s.cfg c nib) rest w ∧
      SameBus (writeAll (nibbleGroup s.cfg nib c.rs false) t) w := by
  rw [groupEvents_eq, proceeds_append, proceeds_append, List.append_assoc, List.append_assoc] at h
  obtain ⟨w₁, h₁, u₁, k₁⟩ := h.steps_phase rfl hr hp hn
  obtain ⟨w₂, h₂, u₂, k₂⟩ := (u₁.setRun (r.passed 1 (.phase g .two))).steps_phase rfl rfl rfl hn
  obtain ⟨w₃, h₃, u₃, k₃⟩ := (u₂.setRun (r.passed 2 (.phase g .three))).steps_phase rfl rfl rfl hn
  refine ⟨w₃, ?_, ?_, ?_⟩
  · rw [groupEvents_eq, List.length_append, List.length_append]
    exact (steps_add _ _ _ _ h₁).trans ((steps_add _ _ _ _ h₂).trans h₃)
  · simpa [groupEvents_eq] using u₃
  · exact (k₁.andThen k₂).andThen k₃

theorem length_of_drop_eq_cons {α : Type} {l as : List α} {a : α} {n : Nat} (h : l.drop n = a :: as) :
    l.length = n + (as.length + 1) := by
  have hlen := congrArg List.length h
  simp only [List.length_drop, List.length_cons] at hlen
  omega

theorem nibble_of_drop_eq_cons {cfg : Config} {nibs : List Nibble} (hc : r.command cfg = some c)
    (h : (sentNibbles cfg c).drop g = nib :: nibs) : r.nibble cfg g = some (c, nib) :=
  nibble_eq_some.2 ⟨hc, by rw [← List.head?_drop, h]; rfl⟩

/-- The rest of a command from the first phase of a group on: each group in turn, then what follows the command. -/
theorem UnderWay.steps_nibbles (nib : Nibble) (nibs : List Nibble)
    (h : UnderWay s b1 b2 es (proceeds v ((nib :: nibs).flatMap (groupEvents s.cfg c)) ++ rest) t)
    (hr : t.seqLd = .active r) (hp : r.place = .phase g .one) (hc : r.command s.cfg = some c)
    (hleft : (sentNibbles s.cfg c).drop g = nib :: nibs) :
    ∃ w, steps ((nib :: nibs).flatMap (groupEvents s.cfg c)).length t =
        .next (resumeHost (afterSend (r.passed (3 * (nib :: nibs).length) (.phase g .one)) c w)) ∧
      UnderWay s b1 b2 (es ++ (nib :: nibs).flatMap (groupEvents s.cfg c)) rest w ∧
      SameBus (writeAll ((nib :: nibs).flatMap fun nib => nibbleGroup s.cfg nib c.rs false) t) w := by
  induction nibs generalizing nib g t r es with
  | nil =>
    rw [List.flatMap_singleton] at h ⊢
    obtain ⟨w, h₁, u, k⟩ := h.steps_nibble hr hp (nibble_of_drop_eq_cons hc hleft)
    rw [afterPhase_last (by rw [u.cfg, length_of_drop_eq_cons hleft]; rfl)] at h₁
    exact ⟨w, h₁, u, k⟩
  | cons nib' nibs ih =>
    rw [List.flatMap_cons, proceeds_append, List.append_assoc] at h
    obtain ⟨w₁, h₁, u₁, k₁⟩ := h.steps_nibble hr hp (nibble_of_drop_eq_cons hc hleft)
    rw [afterPhase_more (by rw [u₁.cfg, length_of_drop_eq_cons hleft, List.length_cons]; omega)] at h₁
    have hleft' : (sentNibbles s.cfg c).drop (g + 1) = nib' :: nibs := by rw [← List.tail_drop, hleft]; rfl
    obtain ⟨w₂, h₂, u₂, k₂⟩ := ih nib' (u₁.setRun (r.passed 3 (.phase (g + 1) .one))) rfl rfl hc hleft'
    refine ⟨w₂, ?_, ?_, k₁.andThen k₂⟩
    · rw [List.flatMap_cons, List.length_append, List.length_cons, Nat.mul_succ, Nat.add_comm _ 3,
        ← afterSend_passed]
      exact (steps_add _ _ _ _ h₁).trans h₂
    · rw [List.append_assoc] at u₂
      exact u₂

/-- `SEND` of any command under way (rules R142, R143, R155): one host step for each event, then what follows the
command; the peers have seen its bytes and nothing else. -/
theorem UnderWay.steps_sendEvents (h : UnderWay s b1 b2 es (proceeds v (sendEvents s.cfg c) ++ rest) t)
    (hr : t.seqLd = .active r) (hp : r.place = .phase 0 .one) (hc : r.command s.cfg = some c) :
    ∃ w, steps (sendEvents s.cfg c).length t =
        .next (resumeHost (afterSend (r.passed (busSequence s.cfg c).length (.phase 0 .one)) c w)) ∧
      UnderWay s b1 b2 (es ++ sendEvents s.cfg c) rest w ∧ SameBus (writeAll (busSequence s.cfg c) t) w := by
  obtain ⟨nib, hfirst⟩ := sentNibbles_head s.cfg c
  obtain ⟨nibs, hnibs⟩ := List.head?_eq_some_iff.1 (List.head?_eq_getElem?.trans hfirst)
  rw [sendEvents_eq, hnibs] at h
  rw [busSequence_length, busSequence, sendEvents_eq, hnibs]
  exact h.steps_nibbles nib nibs hr hp hc hnibs

/-- A bare `SEND` returns once the command has been sent (rule R142). -/
theorem afterSend_cmd (hop : r.op = .cmd c) : afterSend r c w = finishLd .ok w := by
  simp [afterSend, hop, LdOp.finalResult]

/-- `SEND` of a command issued by the free host, no transfer failing. -/
theorem steps_sendCommand (c : Command) (v : Byte) (rest : List Slot) (hf : HostFree s) :
    ∃ w, steps (sendEvents s.cfg c).length
        ((beginLd (.cmd c) s).scheduled (sendEvents s.cfg c).length (.ok v) rest) =
          .next (resumeHost (finishLd .ok w)) ∧
      UnderWay (beginLd (.cmd c) s) s.b1 s.b2 (sendEvents s.cfg c) rest w ∧
      SameBus (writeAll (busSequence s.cfg c) s) w := by
  obtain ⟨w, h, u, k⟩ := (underWay_scheduled (.cmd c) (sendEvents s.cfg c).length (.ok v) rest hf).steps_sendEvents
    (c := c) rfl rfl rfl
  rw [afterSend_cmd rfl] at h
  have hstart : SameBus s ((beginLd (.cmd c) s).scheduled (sendEvents s.cfg c).length (.ok v) rest) :=
    ⟨rfl, rfl, rfl, rfl⟩
  exact ⟨w, h, u, (hstart.writeAll _).trans k⟩

end

theorem exec_ofCommand (c : Command) (s : State) : exec (Instr.ofCommand c) s = sendCommand c s := by
  cases c <;> rfl

/-- A command is issued by its own row and by `LD.CMD` with its word (rules R66, R142). -/
theorem exec_send {s : State} {c : Command} {i : Instr} (hf : HostFree s)
    (hi : i = Instr.ofCommand c ∨ i = .ldCmd (c.word s.cfg.fsLayout) ∧ ∀ a, c = .setDDRAMAddress a → a < 128) :
    exec i s = .next (beginLd (.cmd c) s) := by
  rcases hi with rfl | ⟨rfl, hfits⟩
  · rw [exec_ofCommand]
    exact hostOperation_free _ hf
  · have hword := classify_word s.cfg.fsLayout c (c.addressFits_iff.2 hfits)
    have hgo := hostOperation_free (.next (beginLd (.cmd c) s)) hf
    simpa [exec, execLdCmd, hword] using hgo

/-- The last byte of a command: its lower nibble with Enable low (rules R82, R142). -/
theorem busSequence_getLast? (cfg : Config) (c : Command) :
    (busSequence cfg c).getLast? = some (pack cfg (lowerNibble (c.payload cfg.fsLayout)) c.rs false false) := by
  cases hrep : repeatUpper c <;> simp [busSequence, sentNibbles, nibbleGroup, hrep]

/-- Settles O33: both spellings issue the command, and its run leaves all but the sequencer, the result and the bus. -/
theorem sendWritesTheSequence : Obligations.SendWritesTheSequence := by
  intro s c i v rest hf hi
  obtain ⟨w, h, u, k⟩ := steps_sendCommand c v rest hf
  have hlines : w.lines = pack s.cfg (lowerNibble (c.payload s.cfg.fsLayout)) c.rs false false :=
    k.lines.trans (writeAll_lines s (busSequence_getLast? s.cfg c))
  refine ⟨_, _, exec_send hf hi, rfl, h, ?_⟩
  obtain ⟨-, q, l, d, n, rfl⟩ := u
  exact ⟨rfl, rfl, rfl, rfl, rfl, rfl, rfl, rfl, rfl, rfl, rfl, rfl, rfl, rfl, rfl, rfl, rfl, rfl, rfl, rfl, rfl, rfl,
    hlines⟩

/-- Settles O46: the repeated upper nibble sets the mode, and the pair after it is the command (rule R143). -/
theorem functionSetHandshake : Obligations.FunctionSetHandshake := by
  intro s n f v rest hf hdist hmode hbusy hlow
  obtain ⟨w, h, -, k⟩ := steps_sendCommand (.functionSet false n f) v rest hf
  have hctrl := k.ctrl_of_busSequence hdist hlow
  rw [latchAll_functionSet n f rfl hmode hbusy] at hctrl
  refine ⟨_, _, exec_send hf (.inl rfl), h, ?_⟩
  simp [hctrl]

/-- Settles O60: the command stores its byte at the address counter, which is a visible cell. -/
theorem writtenCharacterIsVisible : Obligations.WrittenCharacterIsVisible := by
  intro s row column b v rest hf hdist hin hwf hac
  obtain ⟨hmode, hhalf, -, hbusy, hlow⟩ := hin
  obtain ⟨w, h, -, k⟩ := steps_sendCommand (.writeData b) v rest hf
  have hctrl := k.ctrl_of_busSequence hdist hlow
  have hddram : w.ctrl.ddram = Memory.write s.ctrl.ddram (displayAddress row column) b := by
    rw [hctrl, latchAll_writeData_ddram rfl hmode hhalf hbusy, hac, displayAddress]
  exact ⟨_, _, exec_send hf (.inl rfl), h, fun row' column' =>
    visibleCharacter_write s _ row row' column column' b hwf hddram⟩

end Sys2Proof.Machine

/-! ### Display operations (spec 43_display_operations.md): the cursor map (rules R172, R195, R205) -/

namespace Sys2Proof.Machine

theorem cursorAddress_top {p : Byte} (h : p.toNat ≤ 15) : cursorAddress p = some p.toNat := if_pos h

theorem cursorAddress_bottom {p : Byte} (h16 : 16 ≤ p.toNat) (h31 : p.toNat ≤ 31) :
    cursorAddress p = some (0x40 + (p.toNat - 16)) := by
  rw [cursorAddress, if_neg (by omega), if_pos h31]

theorem cursorAddress_outside {p : Byte} (h : 32 ≤ p.toNat) : cursorAddress p = none := by
  rw [cursorAddress, if_neg (by omega), if_neg (by omega)]

/-- Settles O59: the first row is the first range of the map, the second row the second, and beyond them is no cell. -/
theorem cursorMapIsTheGrid : Obligations.CursorMapIsTheGrid := by
  constructor
  · intro row column
    have hp : (BitVec.ofNat 8 (16 * row.val + column.val)).toNat = 16 * row.val + column.val :=
      Nat.mod_eq_of_lt (by omega)
    have hrow : row.val = 0 ∨ row.val = 1 := by omega
    rcases hrow with h0 | h1
    · rw [cursorAddress_top (by omega), hp, h0]
    · rw [cursorAddress_bottom (by omega) (by omega), hp, h1]
      simp
  · intro p
    constructor
    · intro hsome
      by_contra hp
      rw [cursorAddress_outside (by omega)] at hsome
      exact absurd hsome (by decide)
    · intro h31
      by_cases h15 : p.toNat ≤ 15
      · simp [cursorAddress_top h15]
      · simp [cursorAddress_bottom (by omega) h31]

theorem exec_ldMove {s : State} (p : Byte) (hf : HostFree s) : exec (.ldMove p) s = .next (moveStep p s) :=
  hostOperation_free _ hf

theorem moveStep_inside {s : State} {p : Byte} {a : Nat} (h : cursorAddress p = some a) :
    moveStep p s = beginLd (.move a) s := by
  simp [moveStep, h]

/-- Settles O31: outside the grid nothing is issued, and `STRICT_RANGE` says what is returned. -/
theorem moveOutsideTheGrid : Obligations.MoveOutsideTheGrid := by
  intro s p hf hp
  rw [exec_ldMove p hf, moveStep, cursorAddress_outside hp]
  constructor <;> intro hstrict <;> simp [hstrict, returnResult]

end Sys2Proof.Machine

/-! ### Display operations: `ISSUE` of each command of an operation (rules R165, R166, R170 to R173) -/

namespace Sys2Proof.Machine

section
variable {s t : State} {r : LdRun} {b1 b2 v : Byte} {es : List Event} {rest : List Slot} {c : Command}

/-! #### The wait after a command (rule R166) -/

/-- The events of the wait after a command where the first status read finds the controller not busy. -/
def waitEvents (cfg : Config) (v : Byte) (c : Command) : List Event :=
  if longWaitClass c = true ∧ cfg.longWait = .delay then [.delay cfg.tLongUs] else statusEvents cfg v v

theorem issueEvents_eq (cfg : Config) (v : Byte) (c : Command) :
    issueEvents cfg v c = sendEvents cfg c ++ waitEvents cfg v c :=
  rfl

theorem ne_status_of_command {cfg : Config} (hc : r.command cfg = some c) : r.op ≠ .status := by
  intro hop
  simp [LdRun.command, hop, LdOp.commands] at hc

theorem afterSend_of_waits (hw : r.op.waits = true) : afterSend r c t =
    if longWaitClass c = true ∧ t.cfg.longWait = .delay then setRun (r.goTo .longDelay) t else setRun r.startPoll t := by
  unfold afterSend
  cases hop : r.op with
  | cmd => simp [hop, LdOp.waits] at hw
  | _ => rfl

/-- The fixed delay after a long command (rule R166). -/
theorem UnderWay.step_longDelay (h : UnderWay s b1 b2 es (.proceed (.ok v) :: rest) t) (hr : t.seqLd = .active r)
    (hp : r.place = .longDelay) :
    step t = .next (resumeHost (afterCommand r (Machine.delay s.cfg.tLongUs (Machine.openStep .host rest t)))) := by
  rw [h.step_eq hr]
  simp [ldStep, hp, h.cfg, closeStep]

theorem UnderWay.controllerReady (h : UnderWay s b1 b2 es rest t) :
    UnderWay s b1 b2 es rest (controllerReady t) := by
  obtain ⟨htc, q, l, c, d, rfl⟩ := h
  exact ⟨htc, q, l, _, d, rfl⟩

/-- The wait after a command, by the fixed delay or by one status read, and then what follows the command. -/
theorem UnderWay.steps_wait (h : UnderWay s b1 b2 es (proceeds v (waitEvents s.cfg v c) ++ rest) t)
    (hc : r.command s.cfg = some c) (hw : r.op.waits = true) (hpath : s.cfg.readPath = .bareOracle)
    (hv : v.getLsbD 7 = false) :
    ∃ w q c1 c2, steps (waitEvents s.cfg v c).length (resumeHost (afterSend r c t)) =
        .next (resumeHost (afterCommand q w)) ∧ q.op = r.op ∧ q.cmd = r.cmd ∧
      UnderWay s c1 c2 (es ++ waitEvents s.cfg v c) rest w := by
  rw [afterSend_of_waits hw, h.cfg]
  by_cases hlong : longWaitClass c = true ∧ s.cfg.longWait = .delay
  · simp only [waitEvents, if_pos hlong] at h ⊢
    have u := h.setRun (r.goTo .longDelay)
    exact ⟨_, _, b1, b2, steps_succ_of_step (u.step_longDelay rfl rfl), rfl, rfl, u.openStep.delay s.cfg.tLongUs⟩
  · simp only [waitEvents, if_neg hlong] at h ⊢
    obtain ⟨w, hsteps, u⟩ :=
      (h.setRun r.startPoll).steps_waitEnds (rest := rest) rfl rfl (ne_status_of_command hc) hpath hv
    exact ⟨_, _, v, v, hsteps, rfl, rfl, u.controllerReady⟩

/-! #### One command with its wait, and all of them -/

/-- `ISSUE` of a command (rule R166): it is sent and waited for, and then what follows it. -/
theorem UnderWay.steps_issue (h : UnderWay s b1 b2 es (proceeds v (issueEvents s.cfg v c) ++ rest) t)
    (hr : t.seqLd = .active r) (hp : r.place = .phase 0 .one) (hc : r.command s.cfg = some c)
    (hw : r.op.waits = true) (hpath : s.cfg.readPath = .bareOracle) (hv : v.getLsbD 7 = false) :
    ∃ w q c1 c2, steps (issueEvents s.cfg v c).length t = .next (resumeHost (afterCommand q w)) ∧
      q.op = r.op ∧ q.cmd = r.cmd ∧ UnderWay s c1 c2 (es ++ issueEvents s.cfg v c) rest w := by
  rw [issueEvents_eq, proceeds_append, List.append_assoc] at h
  obtain ⟨w₁, h₁, u₁, -⟩ := h.steps_sendEvents hr hp hc
  obtain ⟨w₂, q, c1, c2, h₂, hop, hcmd, u₂⟩ :=
    u₁.steps_wait (r := r.passed (busSequence s.cfg c).length (.phase 0 .one)) hc hw hpath hv
  rw [issueEvents_eq, List.length_append, ← List.append_assoc]
  exact ⟨w₂, q, c1, c2, (steps_add _ _ _ _ h₁).trans h₂, hop, hcmd, u₂⟩

theorem afterCommand_more (h : r.cmd + 1 < (r.op.commands t.cfg).length) :
    afterCommand r t = setRun r.nextCommand t :=
  if_pos h

theorem afterCommand_last (h : (r.op.commands t.cfg).length = r.cmd + 1) :
    afterCommand r t = finishLd (r.op.finalResult t.cfg) t :=
  if_neg (by omega)

theorem command_of_drop_eq_cons {cfg : Config} {cs : List Command} (h : (r.op.commands cfg).drop r.cmd = c :: cs) :
    r.command cfg = some c := by
  rw [LdRun.command, ← List.head?_drop, h, List.head?_cons]

/-- The rest of an operation from the start of a command on: each command in turn, and the operation returns (rule
R165). -/
theorem UnderWay.steps_issues (c : Command) (cs : List Command)
    (h : UnderWay s b1 b2 es (proceeds v ((c :: cs).flatMap (issueEvents s.cfg v)) ++ rest) t)
    (hr : t.seqLd = .active r) (hp : r.place = .phase 0 .one)
    (hleft : (r.op.commands s.cfg).drop r.cmd = c :: cs) (hw : r.op.waits = true)
    (hpath : s.cfg.readPath = .bareOracle) (hv : v.getLsbD 7 = false) :
    ∃ w c1 c2, steps ((c :: cs).flatMap (issueEvents s.cfg v)).length t =
        .next (resumeHost (finishLd (r.op.finalResult s.cfg) w)) ∧
      UnderWay s c1 c2 (es ++ (c :: cs).flatMap (issueEvents s.cfg v)) rest w := by
  have hlen := length_of_drop_eq_cons hleft
  induction cs generalizing c t r b1 b2 es with
  | nil =>
    rw [List.flatMap_singleton] at h ⊢
    obtain ⟨w, q, c1, c2, h₁, hop, hcmd, u⟩ := h.steps_issue hr hp (command_of_drop_eq_cons hleft) hw hpath hv
    rw [afterCommand_last (by rw [u.cfg, hop, hcmd, hlen]; rfl), hop, u.cfg] at h₁
    exact ⟨w, c1, c2, h₁, u⟩
  | cons c' cs ih =>
    rw [List.flatMap_cons, proceeds_append, List.append_assoc] at h
    obtain ⟨w₁, q, c1, c2, h₁, hop, hcmd, u₁⟩ := h.steps_issue hr hp (command_of_drop_eq_cons hleft) hw hpath hv
    rw [afterCommand_more (by rw [u₁.cfg, hop, hcmd, hlen, List.length_cons]; omega)] at h₁
    have hleft' : (q.nextCommand.op.commands s.cfg).drop q.nextCommand.cmd = c' :: cs := by
      simp only [LdRun.nextCommand, hop, hcmd, ← List.tail_drop, hleft, List.tail_cons]
    obtain ⟨w₂, d1, d2, h₂, u₂⟩ := ih c' (u₁.setRun q.nextCommand) rfl rfl hleft' (hop ▸ hw)
      (length_of_drop_eq_cons hleft')
    have hres : q.nextCommand.op = r.op := hop
    rw [hres] at h₂
    rw [List.append_assoc] at u₂
    rw [List.flatMap_cons, List.length_append]
    exact ⟨w₂, d1, d2, (steps_add _ _ _ _ h₁).trans h₂, u₂⟩

end

/-! #### The operations (rules R170 to R173) -/

/-- An operation that is issued, has a command to send and waits for each runs through all of them. -/
theorem runsCommands_of_issued {s : State} {i : Instr} {op : LdOp} {cmds : List Command} {res : Result} {v : Byte}
    (rest : List Slot) (hf : HostFree s) (hpath : s.cfg.readPath = .bareOracle) (hv : v.getLsbD 7 = false)
    (hexec : exec i s = .next (beginLd op s)) (hcmds : op.commands s.cfg = cmds) (hres : op.finalResult s.cfg = res)
    (hne : cmds ≠ []) (hw : op.waits = true) :
    RunsCommands i cmds res s v rest := by
  obtain ⟨c, cs, rfl⟩ := List.exists_cons_of_ne_nil hne
  have hplace : (LdRun.start op).place = .phase 0 .one := by
    cases op with
    | status => simp [LdOp.commands] at hcmds
    | _ => rfl
  obtain ⟨w, c1, c2, h, u⟩ :=
    (underWay_scheduled op _ (.ok v) rest hf).steps_issues c cs rfl hplace hcmds hw hpath hv
  subst hres
  refine ⟨_, _, hexec, h, ?_⟩
  obtain ⟨-, q, l, d, n, rfl⟩ := u
  and_intros <;> rfl

/-- An operation with no command to send that returns at once runs through none. -/
theorem runsCommands_of_returned {s : State} {i : Instr} {res : Result} (v : Byte) (rest : List Slot)
    (hf : HostFree s) (hexec : exec i s = .next (returnResult res s)) : RunsCommands i [] res s v rest := by
  obtain ⟨hagent, -, hld⟩ := hf
  refine ⟨_, _, hexec, rfl, ?_⟩
  simp [State.scheduled, returnResult, hagent, hld]

/-- Settles O28: `LD.INIT` is issued with the six commands of rule R170, and each is waited for. -/
theorem initRunsSixCommands : Obligations.InitRunsSixCommands := by
  intro s v rest hf hpath hv
  exact runsCommands_of_issued rest hf hpath hv (hostOperation_free _ hf) rfl rfl (List.cons_ne_nil _ _) rfl

/-- Settles O29: `LD.CLEAR` is issued with one command, which is waited for. -/
theorem clearRunsOneCommand : Obligations.ClearRunsOneCommand := by
  intro s v rest hf hpath hv
  exact runsCommands_of_issued rest hf hpath hv (hostOperation_free _ hf) rfl rfl (List.cons_ne_nil _ _) rfl

theorem runsCommands_ldMove {s : State} {v p : Byte} {a : Nat} (rest : List Slot) (hf : HostFree s)
    (hpath : s.cfg.readPath = .bareOracle) (hv : v.getLsbD 7 = false) (ha : cursorAddress p = some a) :
    RunsCommands (.ldMove p) [.setDDRAMAddress a] .ok s v rest := by
  have hexec : exec (.ldMove p) s = .next (beginLd (.move a) s) := by rw [exec_ldMove p hf, moveStep_inside ha]
  exact runsCommands_of_issued rest hf hpath hv hexec rfl rfl (List.cons_ne_nil _ _) rfl

/-- Settles O30: each range of the cursor map names the address `LD.MOVE` sends. -/
theorem moveSendsTheAddress : Obligations.MoveSendsTheAddress := by
  intro s v p rest hf hpath hv
  exact ⟨fun h15 => runsCommands_ldMove rest hf hpath hv (cursorAddress_top h15),
    fun h16 h31 => runsCommands_ldMove rest hf hpath hv (cursorAddress_bottom h16 h31)⟩

theorem exec_ldWrite {s : State} (text : List Byte) (hf : HostFree s) :
    exec (.ldWrite text) s = .next (writeStep text s) :=
  hostOperation_free _ hf

/-- Settles O32: a text with no byte to send returns at once, any other is issued with one command a byte. -/
theorem writeSendsEachByte : Obligations.WriteSendsEachByte := by
  intro s v text rest hf hpath hv
  have hexec := exec_ldWrite text hf
  by_cases hnone : text.take s.cfg.lineCap = []
  · rw [writeStep, if_pos hnone] at hexec
    rw [hnone]
    exact runsCommands_of_returned v rest hf hexec
  · rw [writeStep, if_neg hnone] at hexec
    exact runsCommands_of_issued rest hf hpath hv hexec rfl rfl (by simpa using hnone) rfl

end Sys2Proof.Machine

/-! ### Display operations: the busy wait of `LD.CLEAR` (rules R167, R201, R236) -/

namespace Sys2Proof.Machine

section
variable {s t : State} {r : LdRun} {b1 b2 v : Byte} {es : List Event} {rest : List Slot}

theorem UnderWay.result_eq (h : UnderWay s b1 b2 es rest t) : t.result = s.result := by
  obtain ⟨-, q, l, c, d, rfl⟩ := h
  rfl

/-- `LD.CLEAR` once its six bytes are sent: at the first status read of its wait. -/
def clearWaiting : LdRun := ((LdRun.start .clear).passed 6 (.phase 1 .three)).startPoll

/-- `LD.CLEAR` answered busy `k` times has made `k` status reads and stands at the next. -/
theorem steps_clear_busy (k : Nat) (rest : List Slot) (hf : HostFree s) (hpath : s.cfg.readPath = .bareOracle)
    (hv : v.getLsbD 7 = true) (hpoll : s.cfg.longWait = .poll)
    (hlimit : ∀ limit, s.cfg.pollLimit = some limit → k < limit) :
    ∃ w c1 c2, steps (6 + 8 * k) ((beginLd .clear s).scheduled (6 + 8 * k) (.ok v) rest) = .next w ∧
      w.seqLd = .active (clearWaiting.polled k) ∧
      UnderWay (beginLd .clear s) c1 c2
        (sendEvents s.cfg .clearDisplay ++ (List.replicate k (statusEvents s.cfg v v)).flatten) rest w := by
  have h₀ := underWay_scheduled .clear (6 + 8 * k) (.ok v) rest hf
  rw [List.replicate_add, List.append_assoc] at h₀
  obtain ⟨w₁, h₁, u₁⟩ := h₀.steps_send (c := .clearDisplay) rfl rfl rfl rfl
  rw [afterSend_clearDisplay_poll rfl (u₁.cfg ▸ hpoll)] at h₁
  have hop : LdOp.clear ≠ .status := by decide
  have hpolls : clearWaiting.PollsLeft s.cfg k := fun limit hl => (Nat.zero_add k).symm ▸ hlimit limit hl
  obtain ⟨w₂, c1, c2, h₂, hr₂, u₂⟩ := (u₁.setRun clearWaiting).steps_busy k rfl rfl hop hpath hv hpolls
  exact ⟨w₂, c1, c2, (steps_add 6 _ _ _ h₁).trans h₂, hr₂, u₂⟩

/-- A status read answered busy that reaches `POLL_LIMIT` raises `BusyTimeout` (rule R167). -/
theorem afterStatus_timeout {limit : Nat} (hop : r.op ≠ .status) (hb : busyOf (statusByte t.b1 t.b2) = true)
    (hl : t.cfg.pollLimit = some limit) (hpolls : limit ≤ r.polls + 1) :
    afterStatus r t = raiseLd .busyTimeout t := by
  unfold afterStatus
  split
  next ho => exact absurd ho hop
  next => simp [hb, hl, hpolls]

end

/-- Settles O37: the wait of `LD.CLEAR` after `k` busy answers has counted `k` status reads of eight transfers each. -/
theorem busyWaitRepeats : Obligations.BusyWaitRepeats := by
  intro s v k rest hf hpath hv hpoll hlimit
  obtain ⟨w, c1, c2, h, hr, u⟩ := steps_clear_busy k rest hf hpath hv hpoll hlimit
  refine ⟨_, w, _, hostOperation_free _ hf, h, hr, rfl, rfl, Nat.zero_add k, rfl, u.result_eq, ?_⟩
  simpa using u.trace

/-- Settles O39: one status read fewer than `POLL_LIMIT` leaves the wait going, and the next one ends it. -/
theorem busyWaitTimesOut : Obligations.BusyWaitTimesOut := by
  intro s v limit rest hf hpath hv hpoll hlimit hpos
  obtain ⟨k, rfl⟩ : ∃ k, limit = k + 1 := ⟨limit - 1, by omega⟩
  have hbelow : ∀ l, s.cfg.pollLimit = some l → k < l := by
    intro l hl
    rw [hlimit] at hl
    cases hl
    exact Nat.lt_succ_self k
  obtain ⟨w₁, c1, c2, h₁, hr₁, u₁⟩ :=
    steps_clear_busy k (List.replicate 8 (.proceed (.ok v)) ++ rest) hf hpath hv hpoll hbelow
  obtain ⟨w₂, h₂, u₂⟩ := u₁.steps_status hr₁ rfl hpath
  have hop : LdOp.clear ≠ .status := by decide
  have hpolls : k + 1 ≤ 0 + k + 1 := by omega
  rw [afterStatus_timeout hop (u₂.busyOf_eq.trans hv) (u₂.cfg ▸ hlimit) hpolls] at h₂
  have hcount : 6 + 8 * (k + 1) = 6 + 8 * k + 8 := by omega
  have hsched : (beginLd .clear s).scheduled (6 + 8 * (k + 1)) (.ok v) rest =
      (beginLd .clear s).scheduled (6 + 8 * k) (.ok v) (List.replicate 8 (.proceed (.ok v)) ++ rest) := by
    rw [State.scheduled, hcount, List.replicate_add, List.append_assoc]
    rfl
  refine ⟨_, resumeHost (raiseLd .busyTimeout w₂), hostOperation_free _ hf, ?_, rfl, rfl, u₂.schedule⟩
  rw [hsched, hcount]
  exact (steps_add _ 8 _ _ h₁).trans h₂

end Sys2Proof.Machine

/-! ### Display operations: the status read at the peers, on either read path (rules R144, R185, R188) -/

namespace Sys2Proof.Machine

section
variable {s t p : State} {r : LdRun} {b1 b2 v x : Byte} {es : List Event} {rest : List Slot} {cfg : Config}

/-! #### What the writes of a status read do at the controller -/

/-- The bytes that one half of a status read writes (rule R144): its read stands between the second and the third. -/
def probeBytes (cfg : Config) : List Byte := [probeByte cfg .one, probeByte cfg .two, probeByte cfg .three]

/-- The controller at the other half of its status byte (rule R188). -/
def otherHalf (s : State) : State := { s with ctrl := { s.ctrl with readHalf := s.ctrl.readHalf.other } }

theorem otherHalf_otherHalf (s : State) : otherHalf (otherHalf s) = s := by
  have hback : s.ctrl.readHalf.other.other = s.ctrl.readHalf := by cases s.ctrl.readHalf <;> rfl
  simp [otherHalf, hback]

theorem SameController.otherHalf (h : SameController p t) : SameController (otherHalf p) (otherHalf t) := by
  obtain ⟨hcfg, hctrl, hdraws⟩ := h
  exact ⟨hcfg, by simp [Machine.otherHalf, hctrl], hdraws⟩

theorem enableOf_probeByte (hdist : DistinctLines cfg) (ph : Phase) : enableOf cfg (probeByte cfg ph) = ph.enable :=
  enableOf_pack hdist _ _ _ _

theorem rsOf_probeByte (hdist : DistinctLines cfg) (ph : Phase) : rsOf cfg (probeByte cfg ph) = false :=
  rsOf_pack hdist _ _ _ _

theorem rwOf_probeByte (hdist : DistinctLines cfg) (ph : Phase) : rwOf cfg (probeByte cfg ph) = true :=
  rwOf_pack hdist _ _ _ _

theorem nibbleOf_probeByte (cfg : Config) (ph : Phase) : nibbleOf (probeByte cfg ph) = cfg.probeNibble :=
  nibbleOf_pack _ _ _ _ _

/-- Up to the read of a half Enable has only gone high, and the controller has not reacted. -/
theorem writeAll_probeOpening (hdist : DistinctLines p.cfg) (hlow : enableOf p.cfg p.lines = false) :
    SameController p (writeAll [probeByte p.cfg .one, probeByte p.cfg .two] p) := by
  have h₁ := sameController_busWrite_low (probeByte p.cfg .one) (probeByte p.cfg .one) hlow
  exact h₁.trans (sameController_busWrite_high (b := probeByte p.cfg .two) (probeByte p.cfg .two)
    (h₁.cfg.symm ▸ enableOf_probeByte hdist .two))

/-- Where Enable alone falls on a probe byte, the controller moves to the other half of its status byte. -/
theorem sameController_busWrite_probe (v : Byte) (hdist : DistinctLines cfg) (hcfg : p.cfg = cfg)
    (hlines : p.lines = probeByte cfg .two) :
    SameController (otherHalf p) (busWrite (probeByte cfg .three) (.ok v) p) := by
  have hedge : controllerEdge p.lines (probeByte cfg .three) p = otherHalf p := by
    simp [controllerEdge, otherHalf, hcfg, hlines, Phase.enable, enableOf_probeByte hdist, nibbleOf_probeByte,
      rsOf_probeByte hdist, rwOf_probeByte hdist]
  exact sameController_busWrite v hedge

theorem writeAll_probeBytes (hdist : DistinctLines cfg) (hcfg : p.cfg = cfg) (hlow : enableOf cfg p.lines = false) :
    SameController (otherHalf p) (writeAll (probeBytes cfg) p) := by
  subst hcfg
  have h₂ := writeAll_probeOpening hdist hlow
  exact h₂.otherHalf.trans (sameController_busWrite_probe (probeByte p.cfg .three) hdist h₂.cfg rfl)

/-- The writes of a whole status read leave the controller as it was, and Enable low. -/
theorem writeAll_statusRead (hdist : DistinctLines cfg) (hcfg : p.cfg = cfg) (hlow : enableOf cfg p.lines = false) :
    SameController p (writeAll (probeBytes cfg ++ probeBytes cfg) p) ∧
      enableOf cfg (writeAll (probeBytes cfg ++ probeBytes cfg) p).lines = false := by
  have hend : enableOf cfg (probeByte cfg .three) = false := enableOf_probeByte hdist .three
  have h₁ := writeAll_probeBytes hdist hcfg hlow
  have h₂ := writeAll_probeBytes hdist (h₁.cfg.trans hcfg) hend
  have hback := h₁.otherHalf.trans h₂
  rw [otherHalf_otherHalf] at hback
  rw [writeAll_append]
  exact ⟨hback, hend⟩

/-- The first byte of a status read shows the BUSY that the oracle answers, on either read path (rules R42, R188,
R189). -/
theorem busReadByte_busy (v : Byte) (hdist : DistinctLines p.cfg) (hlow : enableOf p.cfg p.lines = false)
    (hmode : p.ctrl.mode = .four) (hhalf : p.ctrl.readHalf = .upper) :
    (busReadByte v (writeAll [probeByte p.cfg .one, probeByte p.cfg .two] p)).getLsbD 7 = v.getLsbD 7 := by
  obtain ⟨hcfg, hctrl, -⟩ := writeAll_probeOpening hdist hlow
  have hlines : (writeAll [probeByte p.cfg .one, probeByte p.cfg .two] p).lines = probeByte p.cfg .two := rfl
  cases hpath : p.cfg.readPath with
  | bareOracle => rw [busReadByte_bareOracle v (hcfg.symm ▸ hpath)]
  | referenceEnvironment =>
    have hdriven : statusDriven (writeAll [probeByte p.cfg .one, probeByte p.cfg .two] p) = true := by
      simp [statusDriven, hcfg, hctrl, hlines, Phase.enable, enableOf_probeByte hdist, rsOf_probeByte hdist,
        rwOf_probeByte hdist, hmode]
    simp only [busReadByte, readValue, hdriven, hcfg, hctrl, hpath, hhalf, if_true]
    rw [BitVec.getLsbD_append, BitVec.getLsbD_append]
    simp

theorem SameBus.busReadByte (h : SameBus p t) (v : Byte) : busReadByte v t = busReadByte v p := by
  obtain ⟨hlines, hcfg, hctrl, -⟩ := h
  simp [Machine.busReadByte, readValue, statusDriven, hlines, hcfg, hctrl]

/-! #### A status read under way -/

theorem UnderWay.seqTc_eq (h : UnderWay s b1 b2 es rest t) : t.seqTc = .idle := by
  obtain ⟨htc, q, l, c, d, rfl⟩ := h
  exact htc

theorem UnderWay.emit (h : UnderWay s b1 b2 es rest t) (e : Event) : UnderWay s b1 b2 (es ++ [e]) rest (emit e t) := by
  obtain ⟨htc, q, l, c, d, rfl⟩ := h
  rw [Machine.emit, List.append_assoc]
  exact ⟨htc, q, l, c, d, rfl⟩

/-- A probe write, with what the peers see of it. -/
theorem UnderWay.step_probe_bus {half : Half} {ph : Phase} (h : UnderWay s b1 b2 es (.proceed (.ok v) :: rest) t)
    (hr : t.seqLd = .active r) (hp : r.place = .probe half ph) :
    ∃ w, step t = .next (resumeHost (afterProbe r.counted half ph w)) ∧
      UnderWay s b1 b2 (es ++ [.wrote s.cfg.lcdAddr (probeByte s.cfg ph)]) rest w ∧
      SameBus (writeAll [probeByte s.cfg ph] t) w := by
  refine ⟨_, ?_, h.openStep.busWrite _ v, (sameBus_openStep rest t).busWrite _ (probeByte s.cfg ph) v⟩
  rw [h.step_eq hr]
  simp [ldStep, hp, h.cfg, probeStep, afterWrite, Answer.isOk, closeStep]

/-- A read latches the byte that stands on its path, and the peers see nothing of it (rules R42, R56, R185). -/
theorem UnderWay.step_read_bus {half : Half} (h : UnderWay s b1 b2 es (.proceed (.ok v) :: rest) t)
    (hr : t.seqLd = .active r) (hp : r.place = .read half) (hx : busReadByte v t = x) :
    ∃ w, step t = .next (resumeHost (Machine.setRun (r.counted.goTo (.probe half .three)) w)) ∧
      UnderWay s (half.intoB1 x b1) (half.intoB2 x b2) (es ++ [.read s.cfg.lcdAddr x]) rest w ∧ SameBus t w := by
  have hbyte : busReadByte v (Machine.openStep .host rest t) = x := ((sameBus_openStep rest t).busReadByte v).trans hx
  refine ⟨Machine.latchStatus half x (Machine.emit (.read s.cfg.lcdAddr x) (Machine.openStep .host rest t)), ?_,
    (h.openStep.emit _).latchStatus half x, ?_⟩
  · rw [h.step_eq hr]
    simp [ldStep, hp, readStep, hbyte, busRead_eq, h.cfg, closeStep]
  · cases half <;> exact ⟨rfl, rfl, rfl, rfl⟩

/-- One half of a status read, with the byte that its read finds and what the peers see. -/
theorem UnderWay.steps_half_bus {half : Half}
    (h : UnderWay s b1 b2 es (List.replicate 4 (.proceed (.ok v)) ++ rest) t) (hr : t.seqLd = .active r)
    (hp : r.place = .probe half .one)
    (hx : busReadByte v (writeAll [probeByte s.cfg .one, probeByte s.cfg .two] t) = x) :
    ∃ w, steps 4 t = .next (resumeHost (afterProbe (r.passed 4 (.probe half .three)) half .three w)) ∧
      UnderWay s (half.intoB1 x b1) (half.intoB2 x b2) (es ++ halfEvents s.cfg x) rest w ∧
      SameBus (writeAll (probeBytes s.cfg) t) w := by
  obtain ⟨w₁, h₁, u₁, k₁⟩ := h.step_probe_bus hr hp
  obtain ⟨w₂, h₂, u₂, k₂⟩ := (u₁.setRun (r.passed 1 (.probe half .two))).step_probe_bus rfl rfl
  have k₁₂ := k₁.andThen k₂
  have hread := (k₁₂.trans (sameBus_setRun (r.passed 2 (.read half)) w₂)).busReadByte v
  obtain ⟨w₃, h₃, u₃, k₃⟩ := (u₂.setRun (r.passed 2 (.read half))).step_read_bus rfl rfl (hread.trans hx)
  have k₁₃ := (k₁₂.trans (sameBus_setRun _ w₂)).trans k₃
  obtain ⟨w₄, h₄, u₄, k₄⟩ := (u₃.setRun (r.passed 3 (.probe half .three))).step_probe_bus rfl rfl
  refine ⟨w₄, (steps_succ_of_step h₁).trans ((steps_succ_of_step h₂).trans ((steps_succ_of_step h₃).trans
    (steps_succ_of_step h₄))), ?_, k₁₃.andThen k₄⟩
  simpa [halfEvents] using u₄

/-- A whole status read, with the byte that its first read finds and what the peers see. -/
theorem UnderWay.steps_status_bus
    (h : UnderWay s b1 b2 es (List.replicate 8 (.proceed (.ok v)) ++ rest) t) (hr : t.seqLd = .active r)
    (hp : r.place = .probe .upper .one)
    (hx : busReadByte v (writeAll [probeByte s.cfg .one, probeByte s.cfg .two] t) = x) :
    ∃ w y, steps 8 t = .next (resumeHost (afterStatus (r.passed 8 (.probe .lower .three)) w)) ∧
      UnderWay s x y (es ++ statusEvents s.cfg x y) rest w ∧
      SameBus (writeAll (probeBytes s.cfg ++ probeBytes s.cfg) t) w := by
  obtain ⟨w₁, h₁, u₁, k₁⟩ :=
    UnderWay.steps_half_bus (rest := List.replicate 4 (.proceed (.ok v)) ++ rest) h hr hp hx
  obtain ⟨w₂, h₂, u₂, k₂⟩ := (u₁.setRun (r.passed 4 (.probe .lower .one))).steps_half_bus rfl rfl rfl
  rw [List.append_assoc, halfEvents_append] at u₂
  exact ⟨w₂, _, (steps_add 4 4 _ _ h₁).trans h₂, u₂, k₁.andThen k₂⟩

/-- A wait at a controller that shows the first half of its status byte ends at the first answer that is not busy,
on either read path; the controller has only completed its command (rules R62, R167, R188). -/
theorem UnderWay.steps_waitEnds_bus
    (h : UnderWay s b1 b2 es (List.replicate 8 (.proceed (.ok v)) ++ rest) t) (hr : t.seqLd = .active r)
    (hp : r.place = .probe .upper .one) (hop : r.op ≠ .status) (hv : v.getLsbD 7 = false)
    (hdist : DistinctLines s.cfg) (hlow : enableOf s.cfg t.lines = false) (hmode : t.ctrl.mode = .four)
    (hhalf : t.ctrl.readHalf = .upper) :
    ∃ w c1 c2 es', steps 8 t =
        .next (resumeHost (afterCommand (r.passed 8 (.probe .lower .three)) (Machine.controllerReady w))) ∧
      UnderWay s c1 c2 es' rest w ∧ w.ctrl = t.ctrl ∧ enableOf s.cfg w.lines = false := by
  obtain ⟨w, y, hsteps, u, k⟩ := h.steps_status_bus hr hp rfl
  obtain ⟨hkept, hlow'⟩ := writeAll_statusRead hdist h.cfg hlow
  rw [← h.cfg] at hdist hlow
  have hbusy := (busReadByte_busy v hdist hlow hmode hhalf).trans hv
  rw [h.cfg] at hbusy
  rw [afterStatus_ends (r.passed 8 (.probe .lower .three)) w hop (u.busyOf_eq.trans hbusy)] at hsteps
  exact ⟨w, _, _, _, hsteps, u, (hkept.trans k.controller).ctrl, k.lines.symm ▸ hlow'⟩

end

end Sys2Proof.Machine

/-! ### Display operations: `LD.CLEAR` at a controller in step (rules R62, R171, R174, R190) -/

namespace Sys2Proof.Machine

/-- The controller once it has carried out a ClearDisplay and finished it (rules R62, R190). -/
def Controller.cleared (c : Controller) : Controller := { c with up := 0#4, ac := 0#7, ddram := [] }

theorem Controller.cleared_cleared (c : Controller) : c.cleared.cleared = c.cleared := rfl

/-- A ClearDisplay at a controller in step (rules R189, R190). -/
theorem latchAll_clearDisplay {p : State} (hmode : p.ctrl.mode = .four) (hhalf : p.ctrl.half = .upper)
    (hbusy : p.ctrl.busy = false) :
    (latchAll Command.clearDisplay.rs (sentNibbles p.cfg .clearDisplay) p).ctrl =
      { p.ctrl.cleared with busy := true } := by
  have hpair := latchAll_command (c := .clearDisplay) rfl rfl hmode hhalf hbusy
  refine (congrArg State.ctrl hpair).trans ?_
  simp [controllerCommand, Controller.cleared, hhalf, Command.payload, upperNibble]

theorem InStep.of_cleared {s u : State} (hin : InStep s) (hctrl : u.ctrl = s.ctrl.cleared)
    (hlow : enableOf u.cfg u.lines = false) : InStep u := by
  obtain ⟨hmode, hhalf, hread, hbusy, -⟩ := hin
  exact ⟨hctrl ▸ hmode, hctrl ▸ hhalf, hctrl ▸ hread, hctrl ▸ hbusy, hlow⟩

theorem Controller.cleared_finished {c : Controller} (h : c.busy = false) :
    { c.cleared with busy := false } = c.cleared := by
  simp [Controller.cleared, h]

section
variable {s : State} {v : Byte} (k : Nat) (rest : List Slot)

/-- The six bytes of `LD.CLEAR` at a controller in step: it is cleared and busy, and the wait starts. -/
theorem steps_clear_sent (hf : HostFree s) (hdist : DistinctLines s.cfg) (hpoll : s.cfg.longWait = .poll)
    (hin : InStep s) :
    ∃ w, steps 6 ((beginLd .clear s).scheduled (6 + k) (.ok v) rest) = .next (resumeHost (setRun clearWaiting w)) ∧
      UnderWay (beginLd .clear s) s.b1 s.b2 (sendEvents s.cfg .clearDisplay)
        (List.replicate k (.proceed (.ok v)) ++ rest) w ∧
      w.ctrl = { s.ctrl.cleared with busy := true } ∧ enableOf s.cfg w.lines = false := by
  obtain ⟨hmode, hhalf, -, hbusy, hlow⟩ := hin
  have h₀ := underWay_scheduled .clear (6 + k) (.ok v) rest hf
  rw [List.replicate_add, List.append_assoc] at h₀
  obtain ⟨w, h, u, hbus⟩ := h₀.steps_sendEvents (c := .clearDisplay) rfl rfl rfl
  rw [afterSend_clearDisplay_poll rfl (u.cfg ▸ hpoll)] at h
  have hstart : SameBus s ((beginLd .clear s).scheduled (6 + k) (.ok v) rest) := ⟨rfl, rfl, rfl, rfl⟩
  have hseen : SameBus (writeAll (busSequence s.cfg .clearDisplay) s) w := (hstart.writeAll _).trans hbus
  have hctrl := (hseen.ctrl_of_busSequence hdist hlow).trans (latchAll_clearDisplay hmode hhalf hbusy)
  obtain ⟨-, hlow'⟩ := writeAll_busSequence .clearDisplay hdist hlow
  exact ⟨w, h, u, hctrl, hseen.lines ▸ hlow'⟩

/-- `LD.CLEAR` from a controller in step, answered not busy: the controller is cleared and nothing else of it moves. -/
theorem steps_clear (hf : HostFree s) (hdist : DistinctLines s.cfg) (hpoll : s.cfg.longWait = .poll)
    (hv : v.getLsbD 7 = false) (hin : InStep s) :
    ∃ u, steps 14 ((beginLd .clear s).scheduled 14 (.ok v) rest) = .next u ∧ HostFree u ∧ u.cfg = s.cfg ∧
      u.ctrl = s.ctrl.cleared ∧ InStep u := by
  obtain ⟨w₁, h₁, u₁, hctrl₁, hlow₁⟩ := steps_clear_sent (v := v) 8 rest hf hdist hpoll hin
  have ⟨hmode, _, hread, hbusy, _⟩ := hin
  have hop : LdOp.clear ≠ .status := by decide
  have hmode₁ : w₁.ctrl.mode = .four := hctrl₁ ▸ hmode
  have hread₁ : w₁.ctrl.readHalf = .upper := hctrl₁ ▸ hread
  obtain ⟨w₂, c1, c2, es, h₂, u₂, hctrl₂, hlow₂⟩ :=
    (u₁.setRun clearWaiting).steps_waitEnds_bus rfl rfl hop hv hdist hlow₁ hmode₁ hread₁
  rw [afterCommand_clear rfl] at h₂
  have hctrl : { w₂.ctrl with busy := false } = s.ctrl.cleared := by
    rw [hctrl₂.trans hctrl₁]
    exact Controller.cleared_finished hbusy
  exact ⟨_, (steps_add 6 8 _ _ h₁).trans h₂, ⟨rfl, u₂.seqTc_eq, rfl⟩, u₂.cfg, hctrl,
    hin.of_cleared hctrl (u₂.cfg ▸ hlow₂)⟩

end

/-- Settles O48: the first `LD.CLEAR` leaves a cleared controller in step, and clearing that one changes nothing. -/
theorem clearIsIdempotent : Obligations.ClearIsIdempotent := by
  intro s v rest hf hdist hpoll hv hin
  obtain ⟨u, h, hf', hcfg, hctrl, hin'⟩ := steps_clear rest hf hdist hpoll hv hin
  obtain ⟨u', h', -, -, hctrl', -⟩ := steps_clear rest hf' (hcfg ▸ hdist) (hcfg ▸ hpoll) hv hin'
  refine ⟨_, u, _, u', hostOperation_free _ hf, h, hin', ?_, fun a => ?_, hostOperation_free _ hf', h', ?_⟩
  · rw [hctrl]; rfl
  · rw [hctrl]; rfl
  · rw [hctrl', hctrl, Controller.cleared_cleared]

end Sys2Proof.Machine

/-! ### The controller environment (spec 44_controller_environment.md): a command at a controller in step (rules R188 to
R194, R197) -/

namespace Sys2Proof.Machine

/-! #### A whole payload at the controller, the address any natural number -/

/-- The command that reaches the controller: of an address, its low seven bits (rules R77, R151). -/
def Command.carried : Command → Command
  | .setDDRAMAddress a => .setDDRAMAddress (a % 128)
  | c => c

theorem Command.carried_addressFits (c : Command) : (carried c).addressFits = true := by
  cases c with
  | setDDRAMAddress a => exact decide_eq_true (Nat.mod_lt a (by decide))
  | _ => rfl

theorem ofNat_mod_128 (a : Nat) : BitVec.ofNat 7 (a % 128) = BitVec.ofNat 7 a := by
  simp [← BitVec.toNat_inj]

theorem Command.carried_rs (c : Command) : (carried c).rs = c.rs := by
  cases c <;> rfl

/-- The bits of an address that are dropped are not on the bus. -/
theorem Command.carried_payload (lay : FsLayout) (c : Command) : (carried c).payload lay = c.payload lay := by
  cases c with
  | setDDRAMAddress a => simp only [carried, Command.payload, ofNat_mod_128]
  | _ => rfl

/-- The bits of an address that are dropped do nothing at the controller. -/
theorem controllerCommand_carried (c : Command) (s : State) :
    controllerCommand (some (Command.carried c)) s = controllerCommand (some c) s := by
  cases c with
  | setDDRAMAddress a => simp only [Command.carried, controllerCommand, ofNat_mod_128]
  | _ => rfl

/-- The controller once it has the nibbles of a command, before the command's effect: busy, the upper nibble latched
(rules R189, R197). -/
def received (c : Command) (s : State) : State :=
  { s with ctrl := { s.ctrl with up := upperNibble (c.payload s.cfg.fsLayout), busy := true } }

/-- A command other than FunctionSet at a controller in step is received and has its effect (rules R190 to R194). -/
theorem latchAll_inStep {p : State} {c : Command} (hrep : repeatUpper c = false) (hmode : p.ctrl.mode = .four)
    (hhalf : p.ctrl.half = .upper) (hbusy : p.ctrl.busy = false) :
    latchAll c.rs (sentNibbles p.cfg c) p = controllerCommand (some c) (received c p) := by
  have hpair := latchAll_command rfl (Command.carried_addressFits c) hmode hhalf hbusy
  rw [Command.carried_rs, Command.carried_payload, controllerCommand_carried, ← hhalf] at hpair
  simpa [sentNibbles, hrep, received] using hpair

/-! #### `SEND` of a command with two nibbles -/

theorem sendEvents_length {cfg : Config} {c : Command} (hrep : repeatUpper c = false) :
    (sendEvents cfg c).length = 6 := by
  cases c with
  | functionSet dl n f => cases hrep
  | _ => rfl

/-- A whole `SEND` of a command other than FunctionSet to a controller in step: the command's effect, Enable low. -/
theorem steps_send_inStep {s : State} {c : Command} (v : Byte) (rest : List Slot) (hf : HostFree s)
    (hdist : DistinctLines s.cfg) (hin : InStep s) (hrep : repeatUpper c = false) :
    ∃ u, steps 6 ((beginLd (.cmd c) s).scheduled 6 (.ok v) rest) = .next u ∧ enableOf u.cfg u.lines = false ∧
      u.ctrl = (controllerCommand (some c) (received c s)).ctrl := by
  obtain ⟨hmode, hhalf, -, hbusy, hlow⟩ := hin
  obtain ⟨w, hsteps, hway, hbus⟩ := steps_sendCommand c v rest hf
  rw [sendEvents_length hrep] at hsteps
  obtain ⟨-, hlow'⟩ := writeAll_busSequence c hdist hlow
  have hctrl := hbus.ctrl_of_busSequence hdist hlow
  rw [latchAll_inStep hrep hmode hhalf hbusy] at hctrl
  rw [← hbus.lines] at hlow'
  exact ⟨_, hsteps, (congrArg (enableOf · w.lines) hway.cfg).trans hlow', hctrl⟩

/-! #### WriteData (rule R193) -/

/-- Counting up inside a row, the address counter goes to the next address. -/
theorem advanceAddress_ac {s : State} (hup : s.ctrl.incrementCursor = true)
    (hrow : s.ctrl.ac.toNat < 0x0F ∨ (0x40 ≤ s.ctrl.ac.toNat ∧ s.ctrl.ac.toNat < 0x4F)) :
    (advanceAddress s).ctrl.ac = s.ctrl.ac + 1#7 := by
  have hnext : addressSuccessor s.ctrl.incrementCursor s.ctrl.ac = some (s.ctrl.ac + 1#7) := if_pos ⟨hup, hrow⟩
  simp only [advanceAddress, hnext]

/-- A WriteData stores its byte at the address counter and moves the counter, nothing else of the controller. -/
theorem controllerCommand_writeData (b : Byte) (s : State) :
    ∃ a, (controllerCommand (some (.writeData b)) s).ctrl =
        { s.ctrl with ac := a, ddram := Memory.write s.ctrl.ddram s.ctrl.ac.toNat b } ∧
      (s.ctrl.incrementCursor = true →
        (s.ctrl.ac.toNat < 0x0F ∨ (0x40 ≤ s.ctrl.ac.toNat ∧ s.ctrl.ac.toNat < 0x4F)) → a = s.ctrl.ac + 1#7) := by
  refine ⟨(controllerCommand (some (.writeData b)) s).ctrl.ac, ?_, fun hup hrow => advanceAddress_ac hup hrow⟩
  rw [controllerCommand, advanceAddress]
  split <;> rfl

/-- Settles O45: the controller receives the command and has its effect, which is read off for each command. -/
theorem commandsAtTheController : Obligations.CommandsAtTheController := by
  intro s c v rest hf hdist hin hwf hrep
  obtain ⟨u, hsteps, hlow, hctrl⟩ := steps_send_inStep v rest hf hdist hin hrep
  refine ⟨_, u, exec_send hf (.inl rfl), hsteps, hlow, ?_⟩
  rw [hctrl]
  cases c with
  | clearDisplay => exact ⟨rfl, fun a => rfl⟩
  | writeData b =>
    obtain ⟨a, hstored, hnext⟩ := controllerCommand_writeData b (received (.writeData b) s)
    rw [hstored]
    exact ⟨rfl, Memory.read_write_same _ _ _ hwf.1, fun a' ha => Memory.read_write_other _ _ _ _ ha hwf.1, hnext⟩
  | functionSet dl n f => trivial
  | _ => rfl

end Sys2Proof.Machine

/-! ### The controller environment (spec 44_controller_environment.md): the status read shows the controller (rules R144,
R185, R188, R189) -/

namespace Sys2Proof.Machine

section
variable {s t p : State} {r : LdRun} {b1 b2 v x y : Byte} {es : List Event} {rest : List Slot}

/-- The half of its status byte that the controller drives on lines 7:4, BUSY being bit 7 of the oracle's byte (rules
R188, R189). -/
def drivenHalf (v : Byte) (c : Controller) : Nibble :=
  match c.readHalf with
  | .upper => v.extractLsb' 7 1 ++ c.ac.extractLsb' 4 3
  | .lower => c.ac.extractLsb' 0 4

/-- A read of a status read in the reference environment returns the half that the controller drives, above the levels
last written (rule R185). -/
theorem busReadByte_driven {cfg : Config} (v : Byte) (hdist : DistinctLines cfg) (hcfg : p.cfg = cfg)
    (hlow : enableOf cfg p.lines = false) (hpath : cfg.readPath = .referenceEnvironment) (hmode : p.ctrl.mode = .four) :
    busReadByte v (writeAll [probeByte cfg .one, probeByte cfg .two] p) =
      drivenHalf v p.ctrl ++ (probeByte cfg .two).extractLsb' 0 4 := by
  subst hcfg
  obtain ⟨hcfg, hctrl, -⟩ := writeAll_probeOpening hdist hlow
  have hlines : (writeAll [probeByte p.cfg .one, probeByte p.cfg .two] p).lines = probeByte p.cfg .two := rfl
  have hdriven : statusDriven (writeAll [probeByte p.cfg .one, probeByte p.cfg .two] p) = true := by
    simp [statusDriven, hcfg, hctrl, hlines, Phase.enable, enableOf_probeByte hdist, rsOf_probeByte hdist,
      rwOf_probeByte hdist, hmode]
  simp only [busReadByte, readValue, hdriven, hcfg, hctrl, hlines, hpath, if_true, drivenHalf]
  cases p.ctrl.readHalf <;> rfl

/-- A whole status read, with the bytes that its two reads find. -/
theorem UnderWay.steps_status_bytes
    (h : UnderWay s b1 b2 es (List.replicate 8 (.proceed (.ok v)) ++ rest) t) (hr : t.seqLd = .active r)
    (hp : r.place = .probe .upper .one)
    (hx : busReadByte v (writeAll [probeByte s.cfg .one, probeByte s.cfg .two] t) = x)
    (hy : busReadByte v (writeAll [probeByte s.cfg .one, probeByte s.cfg .two] (writeAll (probeBytes s.cfg) t)) = y) :
    ∃ w, steps 8 t = .next (resumeHost (afterStatus (r.passed 8 (.probe .lower .three)) w)) ∧
      UnderWay s x y (es ++ statusEvents s.cfg x y) rest w ∧
      SameBus (writeAll (probeBytes s.cfg ++ probeBytes s.cfg) t) w := by
  obtain ⟨w₁, h₁, u₁, k₁⟩ :=
    UnderWay.steps_half_bus (rest := List.replicate 4 (.proceed (.ok v)) ++ rest) h hr hp hx
  have hseen := (k₁.trans (sameBus_setRun (r.passed 4 (.probe .lower .one)) w₁)).writeAll
    [probeByte s.cfg .one, probeByte s.cfg .two]
  obtain ⟨w₂, h₂, u₂, k₂⟩ := (u₁.setRun (r.passed 4 (.probe .lower .one))).steps_half_bus rfl rfl
    ((hseen.busReadByte v).trans hy)
  rw [List.append_assoc, halfEvents_append] at u₂
  exact ⟨w₂, (steps_add 4 4 _ _ h₁).trans h₂, u₂, k₁.andThen k₂⟩

/-- The two halves that a controller drives from the first on are its status byte: BUSY and the address counter (rules
R79, R188). -/
theorem statusByte_driven (v : Byte) {c : Controller} (hhalf : c.readHalf = .upper) (low low' : Nibble) :
    statusByte (drivenHalf v c ++ low) (drivenHalf v { c with readHalf := c.readHalf.other } ++ low') =
      v.extractLsb' 7 1 ++ c.ac := by
  have upper : ∀ n l : Nibble, upperNibble (n ++ l) = n := by decide
  have join : ∀ (b : BitVec 1) (a : BitVec 7), b ++ a.extractLsb' 4 3 ++ a.extractLsb' 0 4 = b ++ a := by decide
  rw [statusByte, upper, upper]
  simpa [drivenHalf, hhalf, Half.other] using join (v.extractLsb' 7 1) c.ac

theorem busyOf_append (v : Byte) (a : BitVec 7) : busyOf (v.extractLsb' 7 1 ++ a) = v.getLsbD 7 := by
  rw [busyOf, BitVec.getLsbD_append]
  simp

theorem addressCounterOf_append (b : BitVec 1) (a : BitVec 7) : addressCounterOf (b ++ a) = a := by
  revert b a
  decide

/-- A status read under way in the reference environment, at a controller about to drive the first half: its latches hold
the status byte, and the controller is as it was. -/
theorem UnderWay.steps_status_driven
    (h : UnderWay s b1 b2 es (List.replicate 8 (.proceed (.ok v)) ++ rest) t) (hr : t.seqLd = .active r)
    (hp : r.place = .probe .upper .one) (hdist : DistinctLines s.cfg) (hpath : s.cfg.readPath = .referenceEnvironment)
    (hlow : enableOf s.cfg t.lines = false) (hmode : t.ctrl.mode = .four) (hhalf : t.ctrl.readHalf = .upper) :
    ∃ w x y es', steps 8 t = .next (resumeHost (afterStatus (r.passed 8 (.probe .lower .three)) w)) ∧
      UnderWay s x y es' rest w ∧ statusByte x y = v.extractLsb' 7 1 ++ t.ctrl.ac ∧ w.ctrl = t.ctrl ∧
      enableOf s.cfg w.lines = false := by
  have hother := writeAll_probeBytes hdist h.cfg hlow
  have hupper := busReadByte_driven v hdist h.cfg hlow hpath hmode
  have hlower := busReadByte_driven v hdist (hother.cfg.trans h.cfg) (enableOf_probeByte hdist .three) hpath
    ((congrArg Controller.mode hother.ctrl).trans hmode)
  rw [hother.ctrl] at hlower
  obtain ⟨w, hsteps, hway, hbus⟩ := h.steps_status_bytes hr hp hupper hlower
  obtain ⟨hkept, hlow'⟩ := writeAll_statusRead hdist h.cfg hlow
  exact ⟨w, _, _, _, hsteps, hway, statusByte_driven v hhalf _ _, (hkept.trans hbus.controller).ctrl,
    hbus.lines.symm ▸ hlow'⟩

end

/-- Settles O47: the latches hold the status byte that the controller drives, and `LD.STATUS` returns its parts. -/
theorem statusReadShowsTheController : Obligations.StatusReadShowsTheController := by
  intro s v rest hf hdist hpath hmode hhalf hlow
  obtain ⟨w, x, y, es, hsteps, hway, hstatus, hctrl, hlow'⟩ :=
    (underWay_scheduled .status 8 (.ok v) rest hf).steps_status_driven rfl rfl hdist hpath hlow hmode hhalf
  rw [hway.afterStatus_status rfl, hstatus, busyOf_append, addressCounterOf_append] at hsteps
  exact ⟨_, _, hostOperation_free _ hf, hsteps, rfl, rfl, hctrl, (congrArg (enableOf · w.lines) hway.cfg).trans hlow',
    hway.schedule⟩

end Sys2Proof.Machine

/-! ### The controller environment (spec 44_controller_environment.md): the controller finishing its command (rules R62,
R189) -/

namespace Sys2Proof.Machine

/-- The last write of the status read that ends a busy wait: the controller has completed its command, and what follows
the command comes next (rules R62, R144, R167). -/
theorem hostStep_waitEnds {s : State} {r : LdRun} (v : Byte) (htc : s.seqTc = .idle) (hld : s.seqLd = .active r)
    (hp : r.place = .probe .lower .three) (hop : r.op ≠ .status) (hbusy : busyOf (statusByte s.b1 s.b2) = false) :
    hostStep (.ok v) s =
      .next (afterCommand r.counted (controllerReady (busWrite (probeByte s.cfg .three) (.ok v) s))) := by
  have hlast : ldStep r (.ok v) s =
      .next (afterStatus r.counted (busWrite (probeByte s.cfg .three) (.ok v) s)) := by
    simp [ldStep, hp, probeStep, afterWrite, Answer.isOk, afterProbe]
  have hkept : busyOf (statusByte (busWrite (probeByte s.cfg .three) (.ok v) s).b1
      (busWrite (probeByte s.cfg .three) (.ok v) s).b2) = false := by
    rw [busWrite_frame]
    exact hbusy
  rw [hostStep_active _ htc hld, hlast, afterStatus_ends r.counted _ hop hkept]

theorem afterCommand_seqLd_more {r : LdRun} {t : State} {cfg : Config} (hcfg : t.cfg = cfg)
    (h : r.cmd + 1 < (r.op.commands cfg).length) : (afterCommand r t).seqLd = .active r.nextCommand := by
  subst hcfg
  rw [afterCommand_more h, setRun_seqLd]

theorem afterCommand_returns {r : LdRun} {t : State} {cfg : Config} (hcfg : t.cfg = cfg)
    (h : ¬ r.cmd + 1 < (r.op.commands cfg).length) :
    (afterCommand r t).seqLd = .idle ∧ (afterCommand r t).result = some (r.op.finalResult cfg) := by
  subst hcfg
  rw [afterCommand, if_neg h]
  exact ⟨rfl, rfl⟩

/-- Settles O51: a ready entry is the controller's completion and nothing else, and a busy wait ends with it before the
operation goes on. -/
theorem controllerFinishes : Obligations.ControllerFinishes := by
  refine ⟨fun s rest hs => ?_, fun s r v htc hld hp hop hbusy => ?_⟩
  · rw [step, hs]
    rfl
  · have hcfg : (controllerReady (busWrite (probeByte s.cfg .three) (.ok v) s)).cfg = s.cfg :=
      (busWrite_outside _ _ s).cfg
    exact ⟨_, hostStep_waitEnds v htc hld hp hop hbusy, (afterCommand_frame _ _).ctrl,
      fun hmore => ⟨_, afterCommand_seqLd_more hcfg hmore, rfl, rfl, rfl⟩, afterCommand_returns (r := r.counted) hcfg⟩

end Sys2Proof.Machine

/-! ### Reset and hazards (spec 70_reset_and_hazards.md): lost wraps, the split capture, delays -/

namespace Sys2Proof.Machine

/-! #### The second wrap (rule R232) -/

/-- The wrap clears the counter and finds `OVF` set already, so nothing takes up the 65536 counts it stood for. -/
theorem countTick_idealIs_lost {s : State} {n : Nat} (hn : IdealIs s n) (hcnt : s.cnt = 0xFFFF#16)
    (hovf : s.ovf = true) : 65536 ≤ n + 1 ∧ IdealIs (countTick s) (n + 1 - 65536) := by
  have hbefore : n = (s.tally + 1) * 65536 + 65535 := by
    simpa [IdealIs, hcnt, hovf] using hn
  obtain ⟨hcnt', hovf'⟩ := countTick_wrap hcnt
  have hafter : IdealIs (countTick s) ((s.tally + 1) * 65536) := by
    rw [IdealIs, hcnt', hovf', countTick_tally]
    simp
  have hshort : n + 1 - 65536 = (s.tally + 1) * 65536 := by omega
  exact ⟨by omega, hshort ▸ hafter⟩

/-- Settles O11: the tick is the timer's count, and its wrap is the lost one. -/
theorem secondWrapIsLost : Obligations.SecondWrapIsLost := by
  intro s n ha hr hcnt hovf hn
  obtain ⟨hcnt', hovf'⟩ := countTick_wrap hcnt
  obtain ⟨hlow, hideal⟩ := countTick_idealIs_lost hn hcnt hovf
  exact ⟨countTick s, (exec_tcTick ha).trans (by rw [if_pos hr]), hovf', countTick_tally s, hcnt', hlow, hideal⟩

/-! #### A wrap between S3 and S4 of a sample (rules R106, R231) -/

/-- S1 to S3 under `CAPTURE = SPLIT`: the critical section is entered, the tally and the counter are latched. -/
theorem steps_sample_to_s4 {s : State} (ans : Answer) (rest : List Slot) (h : s.seqTc = .s1)
    (hcap : s.cfg.capture = .split) :
    steps 3 (s.scheduled 3 ans rest) =
      .next (openStep .host rest { s with mask := true, tL := s.tally, rL := s.cnt, seqTc := .s4 }) := by
  have hplace : captureStep s.cfg = .s3 := by simp [captureStep, hcap]
  rw [steps_sample_opening 1 ans rest h, steps_sample 0 ans rest (by simp [hplace]), sampleStep_s3 hplace]
  rfl

/-- S4 to S6: the flag is latched as it stands now, and the count returned with what S2 and S3 latched. -/
theorem steps_sample_from_s4 {s : State} (ans : Answer) (rest : List Slot) (h : s.seqTc = .s4) :
    steps 3 (s.scheduled 3 ans rest) = .next { s with
      pL := s.ovf, mask := false, seqTc := .idle, agent := .host, schedule := rest
      result := some (.tickCount (((s.tL + s.ovf.toNat) * 65536 + s.rL.toNat) % 2 ^ s.cfg.tickWidth)) } := by
  rw [steps_sample 2 ans rest (by simp [h]), sampleStep_s4 h, steps_sample_closing ans rest rfl]
  rfl

/-- A whole step that takes a tick of the running timer (rule R100). -/
theorem step_tick {s : State} {rest : List Slot} (hs : s.schedule = request .tickSource 0x1E#8 :: rest)
    (hr : s.run = true) : step s = .next (resumeHost (countTick (openStep .tickSource rest s))) := by
  have hd : fetch s .op [0x1E#8] = .ok .tcTick [] := rfl
  have hrun : (openStep .tickSource rest s).run = true := hr
  rw [step_request hs hd, exec_tcTick rfl, if_pos hrun]
  rfl

/-- The tick, and then host steps. -/
theorem steps_tick {s : State} (k : Nat) (who : Agent) (ans : Answer) (rest : List Slot) (hr : s.run = true) :
    steps (k + 1) (openStep who (request .tickSource 0x1E#8 :: (List.replicate k (.proceed ans) ++ rest)) s) =
      steps k ((resumeHost (countTick s)).scheduled k ans rest) :=
  steps_succ_of_step (step_tick rfl hr)

/-- A tick between S3 and S4: the count returned takes the counter from before it and the flag from after it. -/
theorem steps_sample_tick_before_s4 {s : State} (ans : Answer) (rest : List Slot) (h : s.seqTc = .s1)
    (hcap : s.cfg.capture = .split) (hr : s.run = true) :
    steps 7 (s.scheduled 3 ans (request .tickSource 0x1E#8 :: (List.replicate 3 (.proceed ans) ++ rest))) =
      .next { countTick s with
        mask := false, tL := s.tally, rL := s.cnt, pL := (countTick s).ovf, seqTc := .idle, agent := .host
        schedule := rest
        result := some (.tickCount
          (((s.tally + (countTick s).ovf.toNat) * 65536 + s.cnt.toNat) % 2 ^ s.cfg.tickWidth)) } := by
  rw [steps_add 3 4 _ _ (steps_sample_to_s4 ans _ h hcap), steps_tick 3 .host ans rest,
    steps_sample_from_s4 ans rest rfl]
  · rfl
  · exact hr

/-- Settles O18: the flag latched is that of the wrap, which sets it whatever it was, and the counter latched is the one
before the wrap. -/
theorem splitCaptureHazard : Obligations.SplitCaptureHazard := by
  intro s ans rest hfree hr hcap hcnt _
  obtain ⟨hcnt', hovf'⟩ := countTick_wrap hcnt
  refine ⟨_, _, exec_tcSample_running hfree hr,
    steps_sample_tick_before_s4 (s := { s with seqTc := .s1, result := none }) ans rest rfl hcap hr,
    ?_, hcnt', hovf', rfl, rfl, rfl⟩
  simp [hcnt, ovfAfterTick, Config.tickWidth]

/-! #### Delays (rule R240) -/

/-- A delay and what follows it: one event, and beside it the sequencer and the result alone. -/
theorem SameButSequencer.delay_frame {s t : State} {us : Nat} (h : SameButSequencer (delay us s) t) :
    t.trace = s.trace ++ [.delay us] ∧ t = { s with seqLd := t.seqLd, result := t.result, trace := t.trace } := by
  have htrace := h.trace
  refine ⟨htrace, ?_⟩
  rw [htrace]
  exact h

theorem ldStep_gap {r : LdRun} {g : Nat} {ph : Phase} {ans : Answer} {s t : State} (hp : r.place = .gap g ph)
    (h : ldStep r ans s = .next t) : SameButSequencer (delay s.cfg.tPhaseUs s) t := by
  simp only [ldStep, hp] at h
  split at h
  next => cases h
  next => cases h; exact afterPhase_frame _ _ _ _ _

theorem ldStep_longDelay {r : LdRun} {ans : Answer} {s t : State} (hp : r.place = .longDelay)
    (h : ldStep r ans s = .next t) : SameButSequencer (delay s.cfg.tLongUs s) t := by
  simp only [ldStep, hp] at h
  cases h
  exact afterCommand_frame _ _

/-- Settles O41: at either place of a delay the host step is the delay, and then the sequencer moves on. -/
theorem delayTouchesNothing : Obligations.DelayTouchesNothing := by
  intro s t r ans htc hld hplace h
  rw [hostStep_active ans htc hld] at h
  obtain ⟨g, ph, hp⟩ | hp := hplace
  · have hgap : r.place ≠ .longDelay := by simp [hp]
    rw [if_neg hgap]
    exact (ldStep_gap hp h).delay_frame
  · rw [if_pos hp]
    exact (ldStep_longDelay hp h).delay_frame

end Sys2Proof.Machine
